-- ==== Sys2Proof/Word.lean ====
section
/-! DEFINITION. The bit widths the spec names: bytes of a frame, 16-bit fields, 32-bit counters, and the
index types of the part's collections (tags, entries, records, stations, nodes, levels). -/

namespace Sys2Proof

/-- One byte of a line, a buffer or the store. -/
abbrev Byte := BitVec 8

/-- A 16-bit field: object, position, detail, age, interval (R169, R171, R176). -/
abbrev Half := BitVec 16

/-- A 32-bit counter or hit count (R1, R159). -/
abbrev Long := BitVec 32

/-- A tag, which is also the number of its slot (R26). -/
abbrev Tag := Fin 32

/-- The station field of a checked frame: 0 broadcast, 1 to 126 stations, 127 the bridge (R169, R172). -/
abbrev Station := Fin 128

/-- A steering entry (R1). -/
abbrev EntryNo := Fin 96

/-- A record descriptor (R54). -/
abbrev RecordNo := Fin 48

/-- A station record: index `i` is the record of station `i + 1` (R102). -/
abbrev StationNo := Fin 126

/-- A notice node (R126). -/
abbrev NodeNo := Fin 20

/-- A notice level or floor, 0 to 63 (R127, R139). -/
abbrev Level := Fin 64

end Sys2Proof
end

