-- ==== Sys2Proof/Syntax.lean ====
section
/-! DEFINITION. The commands of the block: one constructor of `Instr` per row of spec/opcode_table.json,
with the row's operands. -/

namespace Sys2Proof

/-- The two multi-drop segments. -/
inductive Seg where
  | a
  | b
deriving DecidableEq, Repr

/-- The three lines that carry a receiver (R167). -/
inductive Line where
  | upstream
  | segment (x : Seg)
deriving DecidableEq, Repr

/-- How long RESET# is held low (R179). -/
inductive PulseWidth where
  /-- at least 10 µs: taken as a reset -/
  | full
  /-- shorter: may or may not be taken as a reset -/
  | short
deriving DecidableEq, Repr

/-- The two functions that write a management object (R151, R152). -/
inductive WriteKind where
  | write
  | exchange
deriving DecidableEq, Repr

/-- The fields of a management write frame that its row does not fix: the tag, the position, and the
requested length, which a WRITE carries without effect (R151) and an EXCHANGE reads back by (R152). -/
structure WriteHead where
  tag      : Tag
  position : Half
  reqLen   : Byte
deriving DecidableEq, Repr

/-- A command of the block: an event on one of its lines, timers or pins.  The rows that write a
management object stand for the end, on the upstream link, of a checked request frame to station 127 with
the row's object (DESIGN CHOICE, log 1); the other management requests arrive by `upstreamFrameEnd`. -/
inductive Instr where
  /-- R172: the frame being received on the upstream link ends. -/
  | upstreamFrameEnd
  /-- R16: a write of object 0100h + n. -/
  | entryWrite (h : WriteHead) (k : WriteKind) (n : EntryNo) (payload : List Byte)
  /-- R56: a write of object 0200h + n. -/
  | descriptorWrite (h : WriteHead) (k : WriteKind) (n : RecordNo) (payload : List Byte)
  /-- R60: a write of object 0300h + n. -/
  | recordDataWrite (h : WriteHead) (k : WriteKind) (n : RecordNo) (payload : List Byte)
  /-- R103: a write of the object of station n + 1. -/
  | stationRecordWrite (h : WriteHead) (k : WriteKind) (n : StationNo) (payload : List Byte)
  /-- R129: a write of object 0500h + n. -/
  | nodeWrite (h : WriteHead) (k : WriteKind) (n : NodeNo) (payload : List Byte)
  /-- R154: a write of object 0002h. -/
  | generalConfigurationWrite (h : WriteHead) (k : WriteKind) (payload : List Byte)
  /-- R94: a write of object 0003h or 0004h. -/
  | segmentConfigurationWrite (h : WriteHead) (k : WriteKind) (x : Seg) (payload : List Byte)
  /-- R135: a write of object 0005h. -/
  | noticeConfigurationWrite (h : WriteHead) (k : WriteKind) (payload : List Byte)
  /-- R20: command object 0040h; the argument is an entry number. -/
  | entryHold (h : WriteHead) (arg : Byte)
  /-- R22: command object 0041h. -/
  | entryRelease (h : WriteHead) (arg : Byte)
  /-- R23: command object 0042h. -/
  | entryBar (h : WriteHead) (arg : Byte)
  /-- R23: command object 0043h. -/
  | entryUnbar (h : WriteHead) (arg : Byte)
  /-- R65: command object 0044h; the argument is a record number. -/
  | streamRewind (h : WriteHead) (arg : Byte)
  /-- R73: command object 0045h. -/
  | mirrorInvalidate (h : WriteHead) (arg : Byte)
  /-- R98: command object 0046h; the argument is a segment code. -/
  | segmentEnable (h : WriteHead) (arg : Byte)
  /-- R95: command object 0047h. -/
  | segmentDisable (h : WriteHead) (arg : Byte)
  /-- R110: command object 0048h; the argument is a station number. -/
  | stationForget (h : WriteHead) (arg : Byte)
  /-- R136: command object 0049h; the argument is a node number. -/
  | noticeAck (h : WriteHead) (arg : Byte)
  /-- R139: command object 004Ah. -/
  | noticeDone (h : WriteHead)
  /-- R143: command object 004Bh with the set flag only. -/
  | noticeForceSet (h : WriteHead) (node : Byte)
  /-- R143: command object 004Bh with the clear flag only. -/
  | noticeForceClear (h : WriteHead) (node : Byte)
  /-- R160: command object 004Ch. -/
  | countersClear (h : WriteHead)
  /-- R161: command object 004Dh with scope TRAFFIC. -/
  | restartTraffic (h : WriteHead)
  /-- R161: command object 004Dh with scope FULL. -/
  | restartFull (h : WriteHead)
  /-- R79. -/
  | dispatch (x : Seg)
  /-- R81. -/
  | segmentFrameTxEnd (x : Seg)
  /-- R82: the frame being received on the segment ends. -/
  | segmentFrameRxEnd (x : Seg)
  /-- R85. -/
  | responseTimerExpiry (x : Seg)
  /-- R86. -/
  | gapEnd (x : Seg)
  /-- R91. -/
  | probeTimerExpiry (x : Seg)
  /-- R66. -/
  | mirrorAgeTick
  /-- R115. -/
  | startOfTransmission
  /-- R120. -/
  | responseFrameEnd
  /-- R120. -/
  | clashFrameEnd
  /-- R121. -/
  | noticeFrameEnd
  /-- R114. -/
  | spacingEnd
  /-- R135. -/
  | repeatTimerExpiry
  /-- R165, R179. -/
  | resetAssert (w : PulseWidth)
  /-- R165. -/
  | resetRelease
  /-- R166. -/
  | powerUp
  /-- R167: no byte arrives on the line for 2 byte times; a frame being received on it ends. -/
  | receiverIdleGap (l : Line)
  /-- R167. -/
  | byteArrival (l : Line) (b : Byte)
deriving DecidableEq, Repr

end Sys2Proof
end

