-- ==== Sys2Proof/Config.lean ====
section
/-! DEFINITION. What the part fixes, and the free values of what the spec leaves open. -/

namespace Sys2Proof

/-- Bytes of the reply store (R53). -/
abbrev Config.storeSize : Nat := 12288

/-- Slots a segment queue holds (R77). -/
abbrev Config.queueDepth : Nat := 12

/-- Entries the clash queue holds (R49). -/
abbrev Config.clashDepth : Nat := 4

/-- Levels the service stack holds (R139). -/
abbrev Config.stackDepth : Nat := 4

/-- Bytes of the largest request frame (R169). -/
abbrev Config.maxRequestFrame : Nat := 253

/-- Bytes of the largest response frame (R170). -/
abbrev Config.maxResponseFrame : Nat := 249

/-- The setting of the gap timer, in 10 µs ticks (R78, R178). -/
abbrev Config.gapTicks : Byte := 4

/-- The identity object's three values, in its layout (R153, R174). -/
def Config.identity : List Byte := [0x00, 0xD7, 0x06, 0x20, 0x03]

/-- FREE VALUE (log 8): whether the n-th RESET# pulse shorter than 10 µs is taken as a reset.  R179 says
it may or may not be; nothing is known of this constant. -/
opaque Config.shortPulseTaken : Nat → Bool

end Sys2Proof
end

