-- ==== Sys2Proof/Machine/State.lean ====
section
/-! DEFINITION. The state of the ZL-620, block by block, as plain data, and the state after reset.
The blocks are those of the scope chapter's block diagram; INVENTORY.md lists every field with its rule. -/

namespace Sys2Proof.Machine

/-! ### Receivers (R167) -/

/-- The state of a receiver (R167). -/
inductive RxState where
  | waitIdle
  | ready
  | receiving
deriving DecidableEq, Repr

/-- A receiver of one line: its state, the bytes of the frame being received (at most the largest frame of
the line's kind) and the frame's byte count, which goes on past them (R167).  `lost` marks a segment frame
whose reception was in progress when the engine entered SENDING (R82; DESIGN CHOICE, log 5). -/
structure Receiver where
  state : RxState  := .waitIdle
  bytes : List Byte := []
  count : Nat      := 0
  lost  : Bool     := false
deriving DecidableEq, Repr

/-! ### Slots and the outstanding request table (R26 to R52) -/

/-- R30. -/
inductive SlotState where
  | free
  | queued
  | onWire
  | waiting
  | returning
  | sending
deriving DecidableEq, Repr

/-- R28. -/
inductive Origin where
  | steered
  | missForward
  | management
  | localAnswer
deriving DecidableEq, Repr

/-- The twelve statuses (R173). -/
inductive Status where
  | done | busy | refused | absent | noRoute | segmentDown
  | noAnswer | corrupt | short | overrun | tagInUse | badRequest
deriving DecidableEq, Repr

/-- The nineteen reasons (R173). -/
inductive Reason where
  | none | station | held | barred | miss | queueFull | poolEmpty | mgmtFull | exhausted | badLength
  | badBroadcast | badFunction | badObject | badValue | inUse | referenced | pending | overtaken | stale
deriving DecidableEq, Repr

/-- Where a response's payload stands until it is sent (R27, R117). -/
inductive PayloadSource where
  | none
  | buffer (n : Nat)
  | record (r : RecordNo) (offset n : Nat)
  | management (n : Nat)
deriving DecidableEq, Repr

/-- A slot (R27).  Its tag is its index in the table.  The default is the FREE slot, every field absent or
clear (R51). -/
structure Slot where
  state      : SlotState := .free
  origin     : Option Origin := Option.none
  station    : Station := 0
  function   : Byte := 0
  object     : Half := 0
  position   : Half := 0
  reqLen     : Byte := 0
  payloadLen : Nat := 0
  entry      : Option EntryNo := Option.none
  attached   : Bool := false
  segment    : Option Seg := Option.none
  frameBuf   : Option (Fin 24) := Option.none
  mgmtBuf    : Option (Fin 4) := Option.none
  fillClaim  : Bool := false
  attempts   : Nat := 0
  status     : Option Status := Option.none
  reason     : Option Reason := Option.none
  source     : Option PayloadSource := Option.none
deriving DecidableEq, Repr

/-- A clash queue entry (R49). -/
structure ClashEntry where
  tag      : Tag
  station  : Station
  function : Byte
deriving DecidableEq, Repr

/-- The outstanding request table.  A buffer is the list of the bytes written from its start; which buffers
are free is read off the slots (R47, R48).  The clash queue is oldest first (R49). -/
structure RequestTable where
  slots        : Vector Slot 32
  frameBuffers : Vector (List Byte) 24
  mgmtBuffers  : Vector (List Byte) 4
  clashQueue   : List ClashEntry
deriving DecidableEq, Repr

/-! ### The steering table (R1 to R25) -/

/-- R1. -/
inductive StationKey where
  | any
  | exact (n : Fin 127)
deriving DecidableEq, Repr

/-- A subset of the four functions (R1). -/
structure FunctionSet where
  read     : Bool := false
  write    : Bool := false
  exchange : Bool := false
  ping     : Bool := false
deriving DecidableEq, Repr

/-- The action of an entry, with the record that the last three name (R1, R2). -/
inductive Action where
  | forward
  | answer (r : RecordNo)
  | stream (r : RecordNo)
  | mirror (r : RecordNo)
deriving DecidableEq, Repr

/-- The values of the exhausted action and of the default miss action (R1, R39). -/
inductive Fallback where
  | refuse
  | forward
deriving DecidableEq, Repr

/-- A steering entry (R1); the defaults are its power-on values (R24). -/
structure Entry where
  valid           : Bool := false
  key             : StationKey := .exact 0
  functions       : FunctionSet := {}
  objectLow       : Half := 0
  objectHigh      : Half := 0
  action          : Action := .forward
  exhaustedAction : Fallback := .refuse
  broadcast       : Seg := .a
  interval        : Byte := 0
  hold            : Bool := false
  barred          : Bool := false
  holdAfterDone   : Bool := false
  holdOnShort     : Bool := false
  hits            : Long := 0
  phase           : Byte := 0
  inFlight        : Nat := 0
  holder          : Option Tag := Option.none
deriving DecidableEq, Repr

/-! ### The reply store (R53 to R75) -/

/-- R54. -/
inductive RecordKind where
  | none
  | fixed
  | stream
  | mirror
deriving DecidableEq, Repr

/-- R66. -/
inductive MirrorState where
  | invalid
  | valid
deriving DecidableEq, Repr

/-- A record descriptor (R54); the defaults are its power-on values (R74). -/
structure Record where
  kind        : RecordKind := .none
  base        : Nat := 0
  length      : Nat := 0
  total       : Nat := 0
  chunk       : Nat := 0
  maxAge      : Half := 0
  cursor      : Nat := 0
  remaining   : Nat := 0
  mirrorState : MirrorState := .invalid
  age         : Half := 0
  claim       : Option Tag := Option.none
  pins        : Nat := 0
deriving DecidableEq, Repr

/-- Addressed bytes in canonical form: addresses strictly rising, no listed byte equal to what an unlisted
address reads as, which is 0 (R53, R74). -/
abbrev Memory := List Host.Cell

/-- The reply store: its bytes and its 48 descriptors (R53, R54). -/
structure ReplyStore where
  store   : Memory
  records : Vector Record 48
deriving DecidableEq, Repr

/-! ### Segment controllers (R76 to R101) -/

/-- R76. -/
inductive SegState where
  | disabled
  | enabled
  | draining
deriving DecidableEq, Repr

/-- R78. -/
inductive Engine where
  | idle
  | sending
  | awaiting
  | gap
deriving DecidableEq, Repr

/-- What an engine carries (R76). -/
inductive Carried where
  | nothing
  | slot (t : Tag)
  | probe (st : StationNo)
deriving DecidableEq, Repr

/-- How an attempt failed (R85). -/
inductive AttemptFailure where
  | noAnswer
  | corrupt
deriving DecidableEq, Repr

/-- The five counters of a segment (R99). -/
structure SegCounters where
  transactions : Long := 0
  retries      : Long := 0
  timeouts     : Long := 0
  corrupt      : Long := 0
  stray        : Long := 0
deriving DecidableEq, Repr

/-- A segment controller (R76); the defaults are its power-on values (R100).  A timer is `none` when stopped
and holds the setting it was started with while it runs (log 4).  `frame` is the frame on the segment while
the engine is SENDING. -/
structure Segment where
  segState       : SegState := .disabled
  queue          : List Tag := []
  engine         : Engine := .idle
  carried        : Carried := .nothing
  failure        : Option AttemptFailure := Option.none
  finalMark      : Bool := false
  respTimeout    : Byte := 100
  retryLimit     : Fin 8 := 2
  probeInterval  : Half := 500
  responseTimer  : Option Byte := Option.none
  gapTimer       : Option Byte := Option.none
  probeTimer     : Option Half := Option.none
  probeDue       : Bool := false
  probePointer   : StationNo := 0
  waitingDisable : Option Tag := Option.none
  frame          : List Byte := []
  counters       : SegCounters := {}
  rx             : Receiver := {}
deriving DecidableEq, Repr

/-! ### The station table (R102 to R112) -/

/-- R102. -/
inductive Presence where
  | unknown
  | present
  | suspect
  | absent
deriving DecidableEq, Repr

/-- A station record (R102); the defaults are its power-on values (R111). -/
structure StationRecord where
  home     : Option Seg := Option.none
  presence : Presence := .unknown
  failures : Fin 16 := 0
deriving DecidableEq, Repr

/-! ### The return path (R113 to R125) -/

/-- R114. -/
inductive TxState where
  | idle
  | transmitting
  | spacing
deriving DecidableEq, Repr

/-- What the upstream transmitter carries (R114). -/
inductive TxCarried where
  | nothing
  | slot (t : Tag)
  | clash
  | notice
deriving DecidableEq, Repr

/-- The notice frame latch (R118, R124). -/
structure NoticeLatch where
  node   : NodeNo := 0
  level  : Level := 0
  count  : Byte := 0
  detail : Half := 0
deriving DecidableEq, Repr

/-- The return path; the defaults are its power-on values (R124).  `frame` is the frame in transmission. -/
structure ReturnPath where
  queue   : List Tag := []
  txState : TxState := .idle
  carries : TxCarried := .nothing
  frame   : List Byte := []
  latch   : NoticeLatch := {}
deriving DecidableEq, Repr

/-! ### The notice unit (R126 to R146) -/

/-- A notice node (R127); the defaults are its power-on values (R144). -/
structure Node where
  level   : Level := 0
  enabled : Bool := false
  pending : Bool := false
  count   : Byte := 0
  sent    : Byte := 0
  detail  : Half := 0
deriving DecidableEq, Repr

/-- R130. -/
inductive OfferState where
  | notSent
  | sent
deriving DecidableEq, Repr

/-- The offer (R130). -/
structure Offer where
  node  : NodeNo
  state : OfferState
deriving DecidableEq, Repr

/-- The notice unit.  `stack` is the service stack, its top first (R139). -/
structure NoticeUnit where
  nodes          : Vector Node 20
  offer          : Option Offer := Option.none
  due            : Bool := false
  repeatTimer    : Option Byte := Option.none
  repeatInterval : Byte := 25
  stack          : List Level := []
  floor          : Level := 0
deriving DecidableEq, Repr

/-! ### The management agent (R147 to R166) -/

/-- A command that waits, with its argument (R147). -/
inductive WaitingCommand where
  | entryHold (e : EntryNo)
  | segmentDisable (x : Seg)
deriving DecidableEq, Repr

/-- A pending command record (R147). -/
structure PendingRecord where
  tag     : Tag
  command : WaitingCommand
deriving DecidableEq, Repr

/-- R147, R161. -/
inductive Scope where
  | traffic
  | full
deriving DecidableEq, Repr

/-- The restart record (R147). -/
structure RestartRecord where
  tag   : Tag
  scope : Scope
deriving DecidableEq, Repr

/-- The agent's own state; the defaults are its power-on values (R166). -/
structure Agent where
  pendingRecords   : List PendingRecord := []
  restart          : Option RestartRecord := Option.none
  missAction       : Fallback := .refuse
  absenceThreshold : Fin 16 := 3
  baseFloor        : Level := 0
deriving DecidableEq, Repr

/-- The counters of the counters block other than the segments' (R159). -/
structure Counters where
  rxFrames          : Long := 0
  rxCheckErrors     : Long := 0
  rxRestartDiscards : Long := 0
  clashDrops        : Long := 0
  txResponses       : Long := 0
  txNotices         : Long := 0
  mirrorFills       : Long := 0
  mirrorFillSkips   : Long := 0
deriving DecidableEq, Repr

/-! ### The machine -/

/-- The whole state.  `freeIndex` picks the next free value and is the model's own (log 8); `pending` is the
queue of the commands that wait, first in, first out. -/
structure State where
  ort           : RequestTable
  entries       : Vector Entry 96
  rst           : ReplyStore
  segA          : Segment
  segB          : Segment
  stations      : Vector StationRecord 126
  rtp           : ReturnPath
  ntu           : NoticeUnit
  mga           : Agent
  counters      : Counters
  upRx          : Receiver
  resetAsserted : Bool
  freeIndex     : Nat
  pending       : List Instr
deriving DecidableEq, Repr

/-- No fault: the spec gives every event an effect or discards it (log 12). -/
inductive Fault where
deriving DecidableEq, Repr

/-- Why the model gives a command no meaning. -/
inductive Refusal where
  /-- A command whose arm of `exec` has no meaning yet.  No arm raises it.  Safe. -/
  | notModelled (mnemonic : String)
deriving DecidableEq, Repr

/-- R51. -/
def RequestTable.reset : RequestTable where
  slots        := Vector.replicate 32 {}
  frameBuffers := Vector.replicate 24 []
  mgmtBuffers  := Vector.replicate 4 []
  clashQueue   := []

/-- R74. -/
def ReplyStore.reset : ReplyStore where
  store   := []
  records := Vector.replicate 48 {}

/-- R144. -/
def NoticeUnit.reset : NoticeUnit where
  nodes := Vector.replicate 20 {}

/-- The machine right after reset: RESET# released, every block at its power-on values and every receiver in
WAIT_IDLE (R165 to R167). -/
def State.reset : State where
  ort           := RequestTable.reset
  entries       := Vector.replicate 96 {}
  rst           := ReplyStore.reset
  segA          := {}
  segB          := {}
  stations      := Vector.replicate 126 {}
  rtp           := {}
  ntu           := NoticeUnit.reset
  mga           := {}
  counters      := {}
  upRx          := {}
  resetAsserted := false
  freeIndex     := 0
  pending       := []

end Sys2Proof.Machine
end

