-- ==== Sys2Proof/Machine/Frames.lean ====
section
/-! DEFINITION. The frames of the three links: the CRC, the composition of request, response and notice
frames, and the checks of a received frame (R167 to R173). -/

namespace Sys2Proof.Machine

/-! ### Bytes, high byte first (scope chapter, "Byte order") -/

/-- The high byte of a 16-bit field. -/
def hiByte (h : Half) : Byte := h.extractLsb' 8 8

/-- The low byte of a 16-bit field. -/
def loByte (h : Half) : Byte := h.extractLsb' 0 8

/-- The 16-bit field that two bytes carry, high byte first. -/
def halfOf (hi lo : Byte) : Half := hi ++ lo

/-- A 16-bit field as sent. -/
def be16 (h : Half) : List Byte := [hiByte h, loByte h]

/-- A 32-bit counter as sent (R174). -/
def be32 (l : Long) : List Byte :=
  [l.extractLsb' 24 8, l.extractLsb' 16 8, l.extractLsb' 8 8, l.extractLsb' 0 8]

/-- A number below 256 as a byte. -/
def byteOf (n : Nat) : Byte := BitVec.ofNat 8 n

/-- The byte at an offset; a byte that is not there reads 0. -/
def byteAt (bs : List Byte) (i : Nat) : Byte := bs.getD i 0

/-! ### The CRC (R168) -/

/-- One bit of the CRC: generator x^16 + x^15 + x^2 + 1, no reflection. -/
def crcBit (r : Half) : Half := if r.msb then (r <<< 1) ^^^ 0x8005 else r <<< 1

/-- `n` bits of the CRC. -/
def crcBits : Nat → Half → Half
  | 0, r => r
  | n + 1, r => crcBits n (crcBit r)

/-- One byte enters the register most significant bit first. -/
def crcByte (r : Half) (b : Byte) : Half := crcBits 8 (r ^^^ (b ++ (0 : Byte)))

/-- The CRC of the bytes after the start code and before the CRC; preset FFFFh, no final inversion. -/
def crc (bs : List Byte) : Half := bs.foldl crcByte 0xFFFF

/-- The start code of every frame (R167). -/
def startCode : Byte := 0xC3

/-- A frame around its body: the start code, the body, the CRC high byte first (R167, R168). -/
def sealFrame (body : List Byte) : List Byte := startCode :: (body ++ be16 (crc body))

/-- Whether a received frame passes the CRC check (R168). -/
def crcPasses (bs : List Byte) : Bool :=
  bs.drop (bs.length - 2) = be16 (crc ((bs.drop 1).take (bs.length - 3)))

/-! ### Request frames (R169, R172) -/

/-- The fields of a checked request frame. -/
structure Request where
  station  : Station
  function : Byte
  tag      : Tag
  object   : Half
  position : Half
  reqLen   : Byte
  payload  : List Byte
deriving DecidableEq, Repr

/-- The function codes (R169). -/
def fnRead : Byte := 1
def fnWrite : Byte := 2
def fnExchange : Byte := 3
def fnPing : Byte := 4

/-- The body of a request frame, from the kind to the payload (R169). -/
def requestBody (r : Request) : List Byte :=
  [0x01, byteOf r.station, r.function, byteOf r.tag] ++ be16 r.object ++ be16 r.position
    ++ [r.reqLen, byteOf r.payload.length] ++ r.payload

/-- A request frame as sent (R169). -/
def requestFrame (r : Request) : List Byte := sealFrame (requestBody r)

/-- The fields that the bytes of a frame carry in the layout of R169. -/
def requestOf (bs : List Byte) : Request where
  station  := Fin.ofNat 128 (byteAt bs 2).toNat
  function := byteAt bs 3
  tag      := Fin.ofNat 32 (byteAt bs 4).toNat
  object   := halfOf (byteAt bs 5) (byteAt bs 6)
  position := halfOf (byteAt bs 7) (byteAt bs 8)
  reqLen   := byteAt bs 9
  payload  := (bs.drop 11).take (byteAt bs 10).toNat

/-- The LINK_ERROR details of the classes of failure (R172). -/
def linkCrc : Half := 1
def linkLength : Half := 2
def linkFormat : Half := 3

/-- The four upstream frame checks in their order: the request, or the detail of the class that failed
(R172). -/
def checkRequest (bs : List Byte) (count : Nat) : Except Half Request :=
  if count < 13 ∨ Config.maxRequestFrame < count then .error linkLength
  else if ¬ crcPasses bs then .error linkCrc
  else if 240 < (byteAt bs 10).toNat ∨ count ≠ 13 + (byteAt bs 10).toNat then .error linkLength
  else if byteAt bs 0 ≠ startCode ∨ byteAt bs 1 ≠ 0x01 ∨ 127 < (byteAt bs 2).toNat
      ∨ 31 < (byteAt bs 4).toNat then .error linkFormat
  else .ok (requestOf bs)

/-! ### Status and reason codes (R173) -/

/-- R173. -/
def Status.code : Status → Byte
  | .done => 0
  | .busy => 1
  | .refused => 2
  | .absent => 3
  | .noRoute => 4
  | .segmentDown => 5
  | .noAnswer => 6
  | .corrupt => 7
  | .short => 8
  | .overrun => 9
  | .tagInUse => 10
  | .badRequest => 11

/-- R173. -/
def Reason.code : Reason → Byte
  | .none => 0
  | .station => 1
  | .held => 2
  | .barred => 3
  | .miss => 4
  | .queueFull => 5
  | .poolEmpty => 6
  | .mgmtFull => 7
  | .exhausted => 8
  | .badLength => 9
  | .badBroadcast => 10
  | .badFunction => 11
  | .badObject => 12
  | .badValue => 13
  | .inUse => 14
  | .referenced => 15
  | .pending => 16
  | .overtaken => 17
  | .stale => 18

/-! ### Response frames (R170, R82) -/

/-- A response frame as sent (R170). -/
def responseFrame (station : Station) (tag : Tag) (status reason : Byte) (payload : List Byte) : List Byte :=
  sealFrame ([0x02, byteOf station, byteOf tag, status, reason, byteOf payload.length] ++ payload)

/-- The fields of a well-formed response that the bridge uses (R170). -/
structure Response where
  station : Byte
  tag     : Byte
  status  : Byte
  payload : List Byte
deriving DecidableEq, Repr

/-- The response that a received segment frame carries, or none when it is malformed (R82). -/
def checkResponse (bs : List Byte) (count : Nat) : Option Response :=
  if byteAt bs 0 = startCode ∧ byteAt bs 1 = 0x02 ∧ count = 9 + (byteAt bs 6).toNat
      ∧ (byteAt bs 6).toNat ≤ 240 ∧ crcPasses bs = true then
    some { station := byteAt bs 2, tag := byteAt bs 3, status := byteAt bs 4,
           payload := (bs.drop 7).take (byteAt bs 6).toNat }
  else none

/-! ### Notice frames (R171) -/

/-- A notice frame as sent, from the latch (R118, R171). -/
def noticeFrame (l : NoticeLatch) : List Byte :=
  sealFrame ([0x03, byteOf l.node, byteOf l.level, l.count] ++ be16 l.detail)

/-! ### Receivers (R167) -/

/-- A receiver in READY, with no frame in progress. -/
def Receiver.idle : Receiver := { state := .ready }

/-- A byte arrives: it begins a frame, joins one, or is discarded.  Bytes beyond the largest frame of the
line's kind are counted and not kept. -/
def Receiver.byte (rx : Receiver) (largest : Nat) (b : Byte) : Receiver :=
  match rx.state with
  | .waitIdle => rx
  | .ready => { state := .receiving, bytes := [b], count := 1 }
  | .receiving =>
    { rx with
      bytes := if rx.bytes.length < largest then rx.bytes ++ [b] else rx.bytes
      count := rx.count + 1 }

/-- The frame of a receiver in RECEIVING is lost: it will not be judged (R82; log 5). -/
def Receiver.lose (rx : Receiver) : Receiver :=
  match rx.state with
  | .receiving => { rx with lost := true }
  | .waitIdle => rx
  | .ready => rx

end Sys2Proof.Machine
end

