-- ==== Sys2Proof/Machine/Ops.lean ====
section
/-! DEFINITION. The named operations over the store, the tables, the slots and the counters, and the shape of
an event. -/

namespace Sys2Proof.Machine

/-! ### Fixed tables -/

/-- Change one element of a table. -/
def upd {α : Type} {n : Nat} (v : Vector α n) (i : Fin n) (f : α → α) : Vector α n := v.set i (f v[i])

/-- Change every element of a table. -/
def mapAll {α : Type} {n : Nat} (v : Vector α n) (f : α → α) : Vector α n :=
  ⟨⟨v.toList.map f⟩, by simp⟩

/-- The indexes of a table, lowest first. -/
def indexes (n : Nat) : List (Fin n) := List.finRange n

/-! ### The reply store's bytes (R53) -/

/-- The byte at a store address. -/
def Memory.read : Memory → Nat → Byte
  | [], _ => 0
  | (k, v) :: m, a => if a = k then v else Memory.read m a

/-- Write one byte, keeping the canonical form: writing 0, what an unlisted address reads as, removes the
entry. -/
def Memory.put : Memory → Nat → Byte → Memory
  | [], a, b => if b = 0 then [] else [(a, b)]
  | (k, v) :: m, a, b =>
    if a < k then (if b = 0 then (k, v) :: m else (a, b) :: (k, v) :: m)
    else if a = k then (if b = 0 then m else (a, b) :: m)
    else (k, v) :: Memory.put m a b

/-- Write one byte of the store; an address outside it names no byte (R53; log 11). -/
def Memory.write (m : Memory) (a : Nat) (b : Byte) : Memory :=
  if a < Config.storeSize then Memory.put m a b else m

/-- Write a run of bytes from an address on. -/
def Memory.writeRun : Memory → Nat → List Byte → Memory
  | m, _, [] => m
  | m, a, b :: bs => Memory.writeRun (Memory.write m a b) (a + 1) bs

/-- Read a run of bytes from an address on. -/
def Memory.readRun (m : Memory) : Nat → Nat → List Byte
  | _, 0 => []
  | a, n + 1 => Memory.read m a :: Memory.readRun m (a + 1) n

/-- The canonical form from an address on. -/
def Memory.wfFrom : Nat → Memory → Bool
  | _, [] => true
  | lo, (k, v) :: m => lo ≤ k && k < Config.storeSize && v != 0 && Memory.wfFrom (k + 1) m

/-- The canonical form: addresses strictly rising and inside the store, no listed byte 0. -/
def Memory.wf (m : Memory) : Bool := Memory.wfFrom 0 m

/-! ### Accessors -/

/-- The slot of a tag (R26). -/
def State.slot (s : State) (t : Tag) : Slot := s.ort.slots[t]

/-- The entry of a number (R1). -/
def State.entry (s : State) (e : EntryNo) : Entry := s.entries[e]

/-- The descriptor of a record (R54). -/
def State.record (s : State) (r : RecordNo) : Record := s.rst.records[r]

/-- The record of a station (R102). -/
def State.station (s : State) (st : StationNo) : StationRecord := s.stations[st]

/-- The node of a number (R127). -/
def NoticeUnit.node (n : NoticeUnit) (k : NodeNo) : Node := n.nodes[k]

/-- The node of a number (R127). -/
def State.node (s : State) (k : NodeNo) : Node := s.ntu.node k

/-- The controller of a segment (R76). -/
def State.seg (s : State) : Seg → Segment
  | .a => s.segA
  | .b => s.segB

/-- Change one slot. -/
def State.updSlot (s : State) (t : Tag) (f : Slot → Slot) : State :=
  { s with ort := { s.ort with slots := upd s.ort.slots t f } }

/-- Change one entry. -/
def State.updEntry (s : State) (e : EntryNo) (f : Entry → Entry) : State :=
  { s with entries := upd s.entries e f }

/-- Change one descriptor. -/
def State.updRecord (s : State) (r : RecordNo) (f : Record → Record) : State :=
  { s with rst := { s.rst with records := upd s.rst.records r f } }

/-- Change one station record. -/
def State.updStation (s : State) (st : StationNo) (f : StationRecord → StationRecord) : State :=
  { s with stations := upd s.stations st f }

/-- Change one segment controller. -/
def State.updSeg (s : State) (x : Seg) (f : Segment → Segment) : State :=
  match x with
  | .a => { s with segA := f s.segA }
  | .b => { s with segB := f s.segB }

/-- Change the counters of the counters block other than the segments'. -/
def State.updCounters (s : State) (f : Counters → Counters) : State := { s with counters := f s.counters }

/-- Change the agent's own state. -/
def State.updAgent (s : State) (f : Agent → Agent) : State := { s with mga := f s.mga }

/-- Change the return path. -/
def State.updReturn (s : State) (f : ReturnPath → ReturnPath) : State := { s with rtp := f s.rtp }

/-- Write the start of a frame buffer: the bytes after the new ones stay (R47). -/
def State.writeFrameBuffer (s : State) (k : Fin 24) (bs : List Byte) : State :=
  { s with ort := { s.ort with
      frameBuffers := upd s.ort.frameBuffers k (fun old => bs ++ old.drop bs.length) } }

/-- Capture a value into a management buffer (R48). -/
def State.writeMgmtBuffer (s : State) (k : Fin 4) (bs : List Byte) : State :=
  { s with ort := { s.ort with mgmtBuffers := upd s.ort.mgmtBuffers k (fun _ => bs) } }

/-- Write a run of the store. -/
def State.writeStore (s : State) (a : Nat) (bs : List Byte) : State :=
  { s with rst := { s.rst with store := Memory.writeRun s.rst.store a bs } }

/-- The record of a station 1 to 126; stations 0 and 127 have none (R102). -/
def stationRecordOf (st : Station) : Option StationNo :=
  if h : 1 ≤ st.val ∧ st.val ≤ 126 then some ⟨st.val - 1, by omega⟩ else none

/-- The station of a record (R102). -/
def stationOf (i : StationNo) : Station := ⟨i.val + 1, by omega⟩

/-- The presence of a station as a reader of the table sees it; station 0 has no record and is not ABSENT
(R41, R80). -/
def State.isAbsent (s : State) (st : Station) : Bool :=
  match stationRecordOf st with
  | some i => (s.station i).presence = .absent
  | none => false

/-! ### Saturating counts (R7, R99, R128, R159) -/

/-- Count one, staying at the largest value. -/
def satInc {w : Nat} (c : BitVec w) : BitVec w := if c = BitVec.allOnes w then c else c + 1

/-! ### Pools (R44, R47, R48) -/

/-- Whether some slot holds a frame buffer. -/
def State.frameBufHeld (s : State) (k : Fin 24) : Bool := s.ort.slots.toList.any (fun sl => sl.frameBuf = some k)

/-- The lowest-numbered free frame buffer (R47). -/
def State.freeFrameBuf (s : State) : Option (Fin 24) := (indexes 24).find? (fun k => !s.frameBufHeld k)

/-- Whether some slot holds a management buffer. -/
def State.mgmtBufHeld (s : State) (k : Fin 4) : Bool := s.ort.slots.toList.any (fun sl => sl.mgmtBuf = some k)

/-- The lowest-numbered free management buffer (R36). -/
def State.freeMgmtBuf (s : State) : Option (Fin 4) := (indexes 4).find? (fun k => !s.mgmtBufHeld k)

/-- The bytes of a slot's frame buffer. -/
def State.slotBuffer (s : State) (t : Tag) : List Byte :=
  match (s.slot t).frameBuf with
  | some k => s.ort.frameBuffers[k]
  | none => []

/-! ### Slots -/

/-- A slot's request fields, written once in the acceptance event (R26, R27); its other fields absent or
clear. -/
def occupiedSlot (r : Request) (o : Origin) (e : Option EntryNo) : Slot where
  origin     := some o
  station    := r.station
  function   := r.function
  object     := r.object
  position   := r.position
  reqLen     := r.reqLen
  payloadLen := r.payload.length
  entry      := e

/-- Place a request in the slot of its tag (R26). -/
def State.occupy (s : State) (r : Request) (o : Origin) (e : Option EntryNo) : State :=
  s.updSlot r.tag (fun _ => occupiedSlot r o e)

/-- Determine a slot's response: it goes RETURNING and joins the tail of the return queue in the same step
(R29, R113). -/
def State.respond (s : State) (t : Tag) (st : Status) (rs : Reason) (src : PayloadSource) : State :=
  (s.updSlot t (fun sl =>
      { sl with state := .returning, status := some st, reason := some rs, source := some src })).updReturn
    (fun p => { p with queue := p.queue ++ [t] })

/-- End a command's wait: its pending command record is removed and its slot answered (R157). -/
def State.endWait (s : State) (t : Tag) (st : Status) (rs : Reason) : State :=
  (s.updAgent (fun m => { m with pendingRecords := m.pendingRecords.filter (fun p => p.tag ≠ t) })).respond
    t st rs .none

/-- Begin a command's wait: its slot goes WAITING and a pending command record is made (R147, R156). -/
def State.beginWait (s : State) (t : Tag) (c : WaitingCommand) : State :=
  (s.updSlot t (fun sl => { sl with state := .waiting })).updAgent
    (fun m => { m with pendingRecords := m.pendingRecords ++ [{ tag := t, command := c }] })

end Sys2Proof.Machine
end

