-- ==== Sys2Proof/Machine/Flags.lean ====
section
/-! DEFINITION. The flags of a steering entry: what makes a request match it, what HOLD and BARRED answer, what
the completion flags set, and the count of hits toward a notice (R4, R7 to R9, R14). -/

namespace Sys2Proof.Machine

/-- Whether a function code is in a set; a code outside 1 to 4 is in none (R4). -/
def FunctionSet.has (f : FunctionSet) (code : Byte) : Bool :=
  (code = fnRead && f.read) || (code = fnWrite && f.write) || (code = fnExchange && f.exchange)
    || (code = fnPing && f.ping)

/-- Whether a set is empty (R3). -/
def FunctionSet.isEmpty (f : FunctionSet) : Bool := !f.read && !f.write && !f.exchange && !f.ping

/-- Whether a station key matches a station; ANY matches 0 to 126 (R4). -/
def StationKey.has : StationKey → Station → Bool
  | .any, st => st.val < 127
  | .exact n, st => n.val = st.val

/-- Whether a request matches an entry (R2, R4).  HOLD, BARRED, position, requested length and payload play no
part. -/
def Entry.matchesRequest (e : Entry) (r : Request) : Bool :=
  e.valid && e.key.has r.station && e.functions.has r.function
    && decide (e.objectLow.toNat ≤ r.object.toNat) && decide (r.object.toNat ≤ e.objectHigh.toNat)

/-- What an entry's flags answer a match: BARRED before HOLD, nothing when both are clear (R9). -/
def Entry.gate (e : Entry) : Option (Status × Reason) :=
  if e.barred then some (.refused, .barred)
  else if e.hold then some (.busy, .held)
  else none

/-- Whether a hit completes the notice interval (R8). -/
def Entry.completesInterval (e : Entry) : Bool := e.interval ≠ 0 && e.phase + 1 = e.interval

/-- Count a hit and advance the hit phase (R7, R8). -/
def Entry.countHit (e : Entry) : Entry :=
  { e with
    hits := satInc e.hits
    phase := if e.interval = 0 then e.phase else if e.phase + 1 = e.interval then 0 else e.phase + 1 }

/-- Whether an outcome's status asks for HOLD (R14 steps 2 and 3). -/
def Entry.asksHold (e : Entry) (st : Status) : Bool :=
  (st = .done && e.holdAfterDone) || (st = .short && e.holdOnShort)

/-- Whether HOLD is newly set by an outcome (R14 step 4). -/
def Entry.newlyHeld (e : Entry) (st : Status) : Bool := e.asksHold st && !e.hold

/-- The record that an entry's action names (R2). -/
def Action.record? : Action → Option RecordNo
  | .forward => none
  | .answer r => some r
  | .stream r => some r
  | .mirror r => some r

/-- The record of a MIRROR action. -/
def Action.mirror? : Action → Option RecordNo
  | .forward => none
  | .answer _ => none
  | .stream _ => none
  | .mirror r => some r

/-- The kind that an action asks of its record (R3, R57). -/
def Action.kind : Action → RecordKind
  | .forward => .none
  | .answer _ => .fixed
  | .stream _ => .stream
  | .mirror _ => .mirror

end Sys2Proof.Machine
end

