-- ==== Sys2Proof/Machine/Notices.lean ====
section
/-! DEFINITION. The notice unit: events, eligibility, arbitration, the offer, the service stack and its floor
(R126 to R146). -/

namespace Sys2Proof.Machine

/-- The fixed nodes (R126). -/
def nodeLost : Seg → NodeNo
  | .a => 0
  | .b => 1
def nodeFound : Seg → NodeNo
  | .a => 2
  | .b => 3
def nodeSegFail : Seg → NodeNo
  | .a => 4
  | .b => 5
def nodeQueueFull : Seg → NodeNo
  | .a => 6
  | .b => 7
def nodePoolEmpty : NodeNo := 8
def nodeMiss : NodeNo := 9
def nodeEntryHit : NodeNo := 10
def nodeEntryHeld : NodeNo := 11
def nodeStreamEnd : NodeNo := 12
def nodeMirrorStale : NodeNo := 13
def nodeLinkError : NodeNo := 14
def nodeTagClash : NodeNo := 15
def nodeMgmtRefused : NodeNo := 16

namespace NoticeUnit

/-- Change one node. -/
def updNode (n : NoticeUnit) (k : NodeNo) (f : Node → Node) : NoticeUnit :=
  { n with nodes := upd n.nodes k f }

/-- Whether a node may be offered (R131). -/
def eligible (n : NoticeUnit) (k : NodeNo) : Bool :=
  (n.node k).pending && (n.node k).enabled && decide (1 ≤ (n.node k).level.val)
    && decide (n.floor.val < (n.node k).level.val) && decide (n.stack.length < Config.stackDepth)

/-- The better of the winner so far and the next node in rising order: a later node wins by a higher level
only (R131). -/
def better (n : NoticeUnit) (best : Option NodeNo) (k : NodeNo) : Option NodeNo :=
  if n.eligible k then
    match best with
    | none => some k
    | some b => if (n.node b).level.val < (n.node k).level.val then some k else some b
  else best

/-- The winner: of the eligible nodes the one of highest level, the lowest number among equals (R131). -/
def winner (n : NoticeUnit) : Option NodeNo := (indexes 20).foldl n.better none

/-- The offered node loses the offer: its sent count becomes 0, the repeat timer stops and no frame is due
(R132). -/
def clearOffer (n : NoticeUnit) : NoticeUnit :=
  match n.offer with
  | none => n
  | some o =>
    { n.updNode o.node (fun nd => { nd with sent := 0 }) with
      offer := none, due := false, repeatTimer := none }

/-- A node becomes the offer in state NOT_SENT and a notice frame is due (R132). -/
def offerNode (n : NoticeUnit) (k : NodeNo) : NoticeUnit :=
  { n with offer := some { node := k, state := .notSent }, due := true }

/-- Arbitration: the winner is compared with the offer (R131, R132). -/
def arbitrate (n : NoticeUnit) : NoticeUnit :=
  match n.winner, n.offer with
  | none, none => n
  | none, some _ => n.clearOffer
  | some m, none => n.offerNode m
  | some m, some o => if m = o.node then n else n.clearOffer.offerNode m

/-- An event on a node, without the arbitration: pending, one more in the count, and its detail (R128). -/
def gather (n : NoticeUnit) (k : NodeNo) (detail : Half) : NoticeUnit :=
  n.updNode k (fun nd => { nd with pending := true, count := satInc nd.count, detail := detail })

/-- An event on a node (R128). -/
def raise (n : NoticeUnit) (k : NodeNo) (detail : Half) : NoticeUnit := (n.gather k detail).arbitrate

/-- NOTICE_FORCE with set: an event with the detail unchanged (R143). -/
def forceSet (n : NoticeUnit) (k : NodeNo) : NoticeUnit := n.raise k (n.node k).detail

/-- NOTICE_FORCE with clear: the node is emptied, withdrawn if it is the offer, and the unit arbitrates
(R143). -/
def forceClear (n : NoticeUnit) (k : NodeNo) : NoticeUnit :=
  let n' := n.updNode k (fun nd => { nd with pending := false, count := 0, sent := 0 })
  (if n'.offer.any (fun o => o.node = k) then n'.clearOffer else n').arbitrate

/-- A node write sets level and enabled (R129). -/
def writeNode (n : NoticeUnit) (k : NodeNo) (level : Level) (enabled : Bool) : NoticeUnit :=
  (n.updNode k (fun nd => { nd with level := level, enabled := enabled })).arbitrate

/-- Whether a NOTICE_ACK of a node is accepted (R136, R137). -/
def acceptsAck (n : NoticeUnit) (k : NodeNo) : Bool := n.offer = some { node := k, state := .sent }

/-- The count of an acknowledged node falls by its sent count (R136 step 2, R138). -/
def acknowledged (nd : Node) : Node :=
  { nd with count := nd.count - nd.sent, pending := decide (nd.count - nd.sent ≠ 0), sent := 0 }

/-- An accepted NOTICE_ACK (R136). -/
def ack (n : NoticeUnit) (k : NodeNo) : NoticeUnit :=
  let level := (n.node k).level
  arbitrate { n.updNode k acknowledged with
    stack := level :: n.stack, floor := level, offer := none, due := false, repeatTimer := none }

/-- The floor over a stack and a base floor (R139). -/
def floorOf (stack : List Level) (base : Level) : Level := stack.headD base

/-- An accepted NOTICE_DONE, on a stack that is not empty (R139). -/
def done (n : NoticeUnit) (base : Level) : NoticeUnit :=
  arbitrate { n with stack := n.stack.tail, floor := floorOf n.stack.tail base }

/-- A write of the base floor moves the floor while the stack is empty; the unit arbitrates (R140). -/
def setBaseFloor (n : NoticeUnit) (base : Level) : NoticeUnit :=
  arbitrate { n with floor := if n.stack.isEmpty then base else n.floor }

/-- RESTART TRAFFIC, as performed (R145). -/
def restartTraffic (n : NoticeUnit) (base : Level) : NoticeUnit :=
  arbitrate { n with
    nodes := mapAll n.nodes (fun nd => { nd with sent := 0 })
    offer := none, due := false, repeatTimer := none, stack := [], floor := base }

/-- The lower of two counts. -/
def lowerCount (a b : Byte) : Byte := if a.toNat ≤ b.toNat then a else b

/-- The end of a notice frame: the offer is SENT when the latched node is still offered (R121, R135). -/
def frameEnded (n : NoticeUnit) (l : NoticeLatch) : NoticeUnit :=
  match n.offer with
  | none => n
  | some o =>
    if o.node = l.node then
      { n.updNode l.node (fun nd => { nd with sent := lowerCount l.count nd.count }) with
        offer := some { node := o.node, state := .sent }, repeatTimer := some n.repeatInterval }
    else n

/-- What a notice frame latches of the offered node (R118). -/
def latchOf (n : NoticeUnit) (k : NodeNo) : NoticeLatch where
  node   := k
  level  := (n.node k).level
  count  := (n.node k).count
  detail := (n.node k).detail

end NoticeUnit

/-- Change the notice unit. -/
def State.updNotices (s : State) (f : NoticeUnit → NoticeUnit) : State := { s with ntu := f s.ntu }

/-- A block raises an event on a node (R128). -/
def State.raise (s : State) (k : NodeNo) (detail : Half) : State := s.updNotices (fun n => n.raise k detail)

/-- A station as the detail of an event (R126). -/
def stationDetail (st : Station) : Half := BitVec.ofNat 16 st.val

end Sys2Proof.Machine
end

