-- ==== Sys2Proof/Machine/Operands.lean ====
section
/-! DEFINITION. The operands of management requests: the object numbers (R149), the argument and field codes
(R174 to R177), and the byte layouts in which objects are written and read. -/

namespace Sys2Proof.Machine

/-! ### Objects (R149, R156) -/

/-- The fourteen command objects (R156). -/
inductive CommandObject where
  | entryHold | entryRelease | entryBar | entryUnbar | streamRewind | mirrorInvalidate
  | segmentEnable | segmentDisable | stationForget | noticeAck | noticeDone | noticeForce
  | countersClear | restart
deriving DecidableEq, Repr

/-- What an object number names (R149). -/
inductive MgmtObject where
  | identity
  | general
  | segment (x : Seg)
  | notice
  | counters
  | command (c : CommandObject)
  | entry (n : EntryNo)
  | descriptor (n : RecordNo)
  | recordData (n : RecordNo)
  | station (n : StationNo)
  | node (n : NodeNo)
  | unknown
deriving DecidableEq, Repr

/-- The command object of a number (R156). -/
def commandOf (n : Nat) : Option CommandObject :=
  match n with
  | 0x40 => some .entryHold
  | 0x41 => some .entryRelease
  | 0x42 => some .entryBar
  | 0x43 => some .entryUnbar
  | 0x44 => some .streamRewind
  | 0x45 => some .mirrorInvalidate
  | 0x46 => some .segmentEnable
  | 0x47 => some .segmentDisable
  | 0x48 => some .stationForget
  | 0x49 => some .noticeAck
  | 0x4A => some .noticeDone
  | 0x4B => some .noticeForce
  | 0x4C => some .countersClear
  | 0x4D => some .restart
  | _ => none

/-- The number of a command object (R156). -/
def CommandObject.number : CommandObject → Half
  | .entryHold => 0x0040
  | .entryRelease => 0x0041
  | .entryBar => 0x0042
  | .entryUnbar => 0x0043
  | .streamRewind => 0x0044
  | .mirrorInvalidate => 0x0045
  | .segmentEnable => 0x0046
  | .segmentDisable => 0x0047
  | .stationForget => 0x0048
  | .noticeAck => 0x0049
  | .noticeDone => 0x004A
  | .noticeForce => 0x004B
  | .countersClear => 0x004C
  | .restart => 0x004D

/-- The object that a request's object field names (R149). -/
def objectOf (o : Half) : MgmtObject :=
  if o = 0x0001 then .identity
  else if o = 0x0002 then .general
  else if o = 0x0003 then .segment .a
  else if o = 0x0004 then .segment .b
  else if o = 0x0005 then .notice
  else if o = 0x0020 then .counters
  else if h : 0x100 ≤ o.toNat ∧ o.toNat ≤ 0x15F then .entry ⟨o.toNat - 0x100, by omega⟩
  else if h : 0x200 ≤ o.toNat ∧ o.toNat ≤ 0x22F then .descriptor ⟨o.toNat - 0x200, by omega⟩
  else if h : 0x300 ≤ o.toNat ∧ o.toNat ≤ 0x32F then .recordData ⟨o.toNat - 0x300, by omega⟩
  else if h : 0x401 ≤ o.toNat ∧ o.toNat ≤ 0x47E then .station ⟨o.toNat - 0x401, by omega⟩
  else if h : 0x500 ≤ o.toNat ∧ o.toNat ≤ 0x513 then .node ⟨o.toNat - 0x500, by omega⟩
  else match commandOf o.toNat with
    | some c => .command c
    | none => .unknown

/-- The object numbers of the tables (R149). -/
def entryObject (n : EntryNo) : Half := BitVec.ofNat 16 (0x100 + n.val)
def descriptorObject (n : RecordNo) : Half := BitVec.ofNat 16 (0x200 + n.val)
def recordDataObject (n : RecordNo) : Half := BitVec.ofNat 16 (0x300 + n.val)
def stationObject (n : StationNo) : Half := BitVec.ofNat 16 (0x401 + n.val)
def nodeObject (n : NodeNo) : Half := BitVec.ofNat 16 (0x500 + n.val)
def segmentObject : Seg → Half
  | .a => 0x0003
  | .b => 0x0004

/-! ### Field codes (R174, R177) -/

/-- The code of a segment (R174). -/
def segCode : Seg → Byte
  | .a => 1
  | .b => 2

/-- The segment that a code names, where NONE is not allowed (R174). -/
def segOf (b : Byte) : Option Seg := if b = 1 then some .a else if b = 2 then some .b else none

/-- The code of a home segment (R174). -/
def homeCode : Option Seg → Byte
  | none => 0
  | some x => segCode x

/-- The home segment that a code names; `none` is a code out of range (R103, R174). -/
def homeOf (b : Byte) : Option (Option Seg) :=
  if b = 0 then some none else (segOf b).map some

/-- A yes/no field (R174). -/
def boolCode (b : Bool) : Byte := if b then 1 else 0

/-- The value of a yes/no byte (R174). -/
def boolOf (b : Byte) : Option Bool := if b = 0 then some false else if b = 1 then some true else none

/-- R174. -/
def Fallback.code : Fallback → Byte
  | .refuse => 0
  | .forward => 1

/-- R174. -/
def fallbackOf (b : Byte) : Option Fallback :=
  if b = 0 then some .refuse else if b = 1 then some .forward else none

/-- R174. -/
def Presence.code : Presence → Byte
  | .unknown => 0
  | .present => 1
  | .suspect => 2
  | .absent => 3

/-- R174. -/
def SegState.code : SegState → Byte
  | .disabled => 0
  | .enabled => 1
  | .draining => 2

/-- R174. -/
def Engine.code : Engine → Byte
  | .idle => 0
  | .sending => 1
  | .awaiting => 2
  | .gap => 3

/-- R174. -/
def RecordKind.code : RecordKind → Byte
  | .none => 0
  | .fixed => 1
  | .stream => 2
  | .mirror => 3

/-- R174. -/
def MirrorState.code : MirrorState → Byte
  | .invalid => 0
  | .valid => 1

/-- The action and record bytes of an entry (R175); the record of FORWARD reads FFh (R2). -/
def Action.codes : Action → List Byte
  | .forward => [0, 0xFF]
  | .answer r => [1, byteOf r]
  | .stream r => [2, byteOf r]
  | .mirror r => [3, byteOf r]

/-- An optional tag, FFh when absent (R174). -/
def tagCode : Option Tag → Byte
  | none => 0xFF
  | some t => byteOf t

/-- The number that a byte carries, when it is below a bound. -/
def indexOf (n : Nat) (b : Byte) : Option (Fin n) := if h : b.toNat < n then some ⟨b.toNat, h⟩ else none

/-- A station argument, 1 to 126 (R177). -/
def stationArg (b : Byte) : Option StationNo :=
  if h : 1 ≤ b.toNat ∧ b.toNat ≤ 126 then some ⟨b.toNat - 1, by omega⟩ else none

/-- A restart scope (R174). -/
def scopeOf (b : Byte) : Option Scope :=
  if b = 1 then some .traffic else if b = 2 then some .full else none

/-- The code of a restart scope (R174). -/
def Scope.code : Scope → Byte
  | .traffic => 1
  | .full => 2

/-! ### Steering entries (R175) -/

/-- The station key that a byte carries (R175). -/
def keyOf (b : Byte) : Option StationKey :=
  if b = 0xFF then some .any else (indexOf 127 b).map .exact

/-- R175. -/
def StationKey.code : StationKey → Byte
  | .any => 0xFF
  | .exact n => byteOf n

/-- The action that the action and record bytes carry; the record byte of FORWARD is not checked (R175). -/
def actionOf (act rec : Byte) : Option Action :=
  if act = 0 then some .forward
  else if act = 1 then (indexOf 48 rec).map .answer
  else if act = 2 then (indexOf 48 rec).map .stream
  else if act = 3 then (indexOf 48 rec).map .mirror
  else none

/-- The function set that a byte carries; bits 4 to 7 are zero (R175). -/
def functionsOf (b : Byte) : Option FunctionSet :=
  if 15 < b.toNat then none
  else some { read := b.getLsbD 0, write := b.getLsbD 1, exchange := b.getLsbD 2, ping := b.getLsbD 3 }

/-- R175. -/
def FunctionSet.code (f : FunctionSet) : Byte :=
  (if f.read then 1 else 0) ||| (if f.write then 2 else 0) ||| (if f.exchange then 4 else 0)
    ||| (if f.ping then 8 else 0)

/-- The entry that the twelve writable bytes give, after the range checks of R3 and R175: the written fields,
and the kept fields as an entry write leaves them (R16). -/
def entryOf (p : List Byte) : Option Entry := do
  let flags := byteAt p 0
  if 31 < flags.toNat then none
  else
    let key ← keyOf (byteAt p 1)
    let functions ← functionsOf (byteAt p 2)
    let action ← actionOf (byteAt p 7) (byteAt p 8)
    let exhausted ← fallbackOf (byteAt p 9)
    let broadcast ← segOf (byteAt p 10)
    some {
      valid := flags.getLsbD 0
      key := key
      functions := functions
      objectLow := halfOf (byteAt p 3) (byteAt p 4)
      objectHigh := halfOf (byteAt p 5) (byteAt p 6)
      action := action
      exhaustedAction := exhausted
      broadcast := broadcast
      interval := byteAt p 11
      hold := flags.getLsbD 1
      barred := flags.getLsbD 2
      holdAfterDone := flags.getLsbD 3
      holdOnShort := flags.getLsbD 4 }

/-- The flags byte of an entry (R175). -/
def Entry.flagBits (e : Entry) : Byte :=
  (if e.valid then 1 else 0) ||| (if e.hold then 2 else 0) ||| (if e.barred then 4 else 0)
    ||| (if e.holdAfterDone then 8 else 0) ||| (if e.holdOnShort then 16 else 0)

/-- An entry object as read: 20 bytes (R175). -/
def entryBytes (e : Entry) : List Byte :=
  [e.flagBits, e.key.code, e.functions.code] ++ be16 e.objectLow ++ be16 e.objectHigh ++ e.action.codes
    ++ [e.exhaustedAction.code, segCode e.broadcast, e.interval] ++ be32 e.hits
    ++ [e.phase, byteOf e.inFlight, boolCode e.holder.isSome, tagCode e.holder]

/-! ### Record descriptors (R176) -/

/-- The descriptor that the eight writable bytes give, after check 2 of R55: the written fields, those of
other kinds 0, and the kept fields as a descriptor write leaves them (R56). -/
def descriptorOf (p : List Byte) : Option Record :=
  let base := (halfOf (byteAt p 1) (byteAt p 2)).toNat
  let size := (halfOf (byteAt p 3) (byteAt p 4)).toNat
  let chunk := (byteAt p 5).toNat
  let maxAge := halfOf (byteAt p 6) (byteAt p 7)
  let kind := byteAt p 0
  if kind = 0 then some {}
  else if Config.storeSize ≤ base then none
  else if kind = 1 then
    if 1 ≤ size ∧ size ≤ 240 then some { kind := .fixed, base := base, length := size } else none
  else if kind = 2 then
    if 1 ≤ size ∧ size ≤ Config.storeSize ∧ 1 ≤ chunk ∧ chunk ≤ 240 then
      some { kind := .stream, base := base, total := size, chunk := chunk, remaining := size }
    else none
  else if kind = 3 then
    if 1 ≤ size ∧ size ≤ 240 then some { kind := .mirror, base := base, length := size, maxAge := maxAge }
    else none
  else none

/-- The bytes in a record's region (R53). -/
def Record.size (r : Record) : Nat :=
  match r.kind with
  | .none => 0
  | .fixed => r.length
  | .stream => r.total
  | .mirror => r.length

/-- A number below 65,536 as a 16-bit field. -/
def halfNat (n : Nat) : Half := BitVec.ofNat 16 n

/-- A descriptor object as read: 17 bytes (R176). -/
def recordBytes (r : Record) : List Byte :=
  [r.kind.code] ++ be16 (halfNat r.base) ++ be16 (halfNat r.size) ++ [byteOf r.chunk] ++ be16 r.maxAge
    ++ be16 (halfNat r.cursor) ++ be16 (halfNat r.remaining) ++ [r.mirrorState.code] ++ be16 r.age
    ++ [tagCode r.claim, byteOf r.pins]

/-! ### The other objects (R174, R176) -/

/-- A station record object as read: 3 bytes (R176). -/
def stationBytes (r : StationRecord) : List Byte := [homeCode r.home, r.presence.code, byteOf r.failures]

/-- A notice node object as read: 7 bytes (R176). -/
def nodeBytes (n : Node) : List Byte :=
  [byteOf n.level, boolCode n.enabled, boolCode n.pending, n.count, n.sent] ++ be16 n.detail

/-- The general configuration object as read: 3 bytes (R174). -/
def generalBytes (m : Agent) : List Byte :=
  [m.missAction.code, byteOf m.absenceThreshold, byteOf m.baseFloor]

/-- A segment configuration object as read: 7 bytes (R174). -/
def segmentBytes (g : Segment) : List Byte :=
  [g.respTimeout, byteOf g.retryLimit] ++ be16 g.probeInterval
    ++ [g.segState.code, byteOf g.queue.length, g.engine.code]

/-- The code of the offer state (R174). -/
def offerStateCode : Option Offer → Byte
  | none => 0
  | some o => match o.state with
    | .notSent => 1
    | .sent => 2

/-- The offered node, FFh when none (R174). -/
def offerNodeCode : Option Offer → Byte
  | none => 0xFF
  | some o => byteOf o.node

/-- The four stack positions from bottom to top, those at or above the depth 0 (R155, R174). -/
def stackBytes (stack : List Level) : List Byte :=
  ((stack.reverse.map (fun (l : Level) => byteOf l.val)) ++ [0, 0, 0, 0]).take 4

/-- The notice configuration object as read: 9 bytes (R174). -/
def noticeBytes (n : NoticeUnit) : List Byte :=
  [n.repeatInterval, offerNodeCode n.offer, offerStateCode n.offer, byteOf n.stack.length]
    ++ stackBytes n.stack ++ [byteOf n.floor]

/-- The five counters of a segment in the order of the counters block (R174). -/
def segCounterBytes (c : SegCounters) : List Byte :=
  be32 c.transactions ++ be32 c.retries ++ be32 c.timeouts ++ be32 c.corrupt ++ be32 c.stray

/-- The counters block as read: eighteen counters, 72 bytes (R174). -/
def counterBytes (s : State) : List Byte :=
  be32 s.counters.rxFrames ++ be32 s.counters.rxCheckErrors ++ be32 s.counters.rxRestartDiscards
    ++ be32 s.counters.clashDrops ++ be32 s.counters.txResponses ++ be32 s.counters.txNotices
    ++ segCounterBytes s.segA.counters ++ segCounterBytes s.segB.counters
    ++ be32 s.counters.mirrorFills ++ be32 s.counters.mirrorFillSkips

end Sys2Proof.Machine
end

