-- ==== Sys2Proof/Machine/Steering.lean ====
section
/-! DEFINITION. The steering table: lookup and hit counting, attachment and departure, quiesces, entry writes
and the four entry commands (R1 to R25). -/

namespace Sys2Proof.Machine

/-- What a management write or command comes to in its acceptance event: it takes effect and is answered
DONE, it takes effect and waits, or it is refused and leaves all state as it was (R151, R156, R158). -/
inductive Verdict where
  | done (s : State)
  | waits (s : State)
  | refused (st : Status) (rs : Reason)

/-- The refusal of a field or argument out of range, or of a failed consistency check (R158). -/
def Verdict.badValue : Verdict := .refused .refused .badValue

/-- First match: the valid entry of lowest index that the request matches (R5). -/
def State.lookup (s : State) (r : Request) : Option EntryNo :=
  (indexes 96).find? (fun e => (s.entry e).matchesRequest r)

/-- A hit is counted, and ENTRY_HIT raised when it completes the notice interval (R7, R8). -/
def State.countHit (s : State) (e : EntryNo) : State :=
  if (s.entry e).completesInterval then
    (s.updEntry e Entry.countHit).raise nodeEntryHit (halfNat e)
  else s.updEntry e Entry.countHit

/-- A queued slot is attached to its entry and counted in flight (R11). -/
def State.attach (s : State) (t : Tag) (e : EntryNo) : State :=
  (s.updSlot t (fun sl => { sl with attached := true })).updEntry e
    (fun en => { en with inFlight := en.inFlight + 1 })

/-- A quiesce pending on an entry completes: its ENTRY_HOLD slot is answered DONE and the holder cleared (R18,
R21). -/
def State.completeQuiesce (s : State) (e : EntryNo) : State :=
  match (s.entry e).holder with
  | none => s
  | some h => (s.updEntry e (fun en => { en with holder := none })).endWait h .done .none

/-- The entry of a slot, when the slot is attached to it (R11). -/
def Slot.attachedEntry (sl : Slot) : Option EntryNo := if sl.attached then sl.entry else none

/-- Steps 1 to 4 of R14 on the entry: the decrement, and HOLD when the outcome asks for it.  A departure that
is no outcome makes the decrement only (R12). -/
def Entry.depart (en : Entry) (outcome : Option Status) : Entry :=
  { en with inFlight := en.inFlight - 1, hold := en.hold || outcome.any en.asksHold }

/-- A slot leaves the segment side: the completion actions of its entry when it is attached, nothing
otherwise (R12, R13, R14). -/
def State.leaveEntry (s : State) (t : Tag) (outcome : Option Status) : State :=
  match (s.slot t).attachedEntry with
  | none => s
  | some e =>
    let s1 := (s.updSlot t (fun sl => { sl with attached := false })).updEntry e (fun en => en.depart outcome)
    let s2 := if outcome.any (s.entry e).newlyHeld then s1.raise nodeEntryHeld (halfNat e) else s1
    if (s2.entry e).inFlight = 0 then s2.completeQuiesce e else s2

/-! ### Entry writes (R3, R16 to R18) -/

/-- The consistency checks of an entry written with valid yes (R3). -/
def State.entryConsistent (s : State) (e : Entry) : Bool :=
  !e.functions.isEmpty && decide (e.objectLow.toNat ≤ e.objectHigh.toNat)
    && (e.action.kind ≠ .mirror || e.objectLow = e.objectHigh)
    && (match e.action.record? with
        | none => true
        | some r => (s.record r).kind = e.action.kind)

/-- Every slot attached to an entry is detached (R13, R16). -/
def State.detachAll (s : State) (e : EntryNo) : State :=
  { s with ort := { s.ort with
      slots := mapAll s.ort.slots (fun sl => if sl.entry = some e then { sl with attached := false } else sl) } }

/-- An accepted entry write: its slots are detached, a pending quiesce completes with DONE, and the entry
takes the written fields with its kept fields 0 (R16, R18). -/
def State.replaceEntry (s : State) (e : EntryNo) (new : Entry) : State :=
  ((s.detachAll e).completeQuiesce e).updEntry e (fun _ => new)

/-- A write of a steering entry object (R3, R16). -/
def writeEntry (s : State) (e : EntryNo) (p : List Byte) : Verdict :=
  match entryOf p with
  | none => .badValue
  | some new => if new.valid && !s.entryConsistent new then .badValue else .done (s.replaceEntry e new)

/-! ### Commands on entries (R19 to R23) -/

/-- The valid entry that an argument names (R19). -/
def State.entryArg (s : State) (arg : Byte) : Option EntryNo :=
  (indexOf 96 arg).filter (fun e => (s.entry e).valid)

/-- ENTRY_HOLD (R20). -/
def cmdEntryHold (s : State) (t : Tag) (arg : Byte) : Verdict :=
  match s.entryArg arg with
  | none => .badValue
  | some e =>
    if (s.entry e).holder.isSome then .refused .refused .pending
    else if (s.entry e).inFlight = 0 then .done (s.updEntry e (fun en => { en with hold := true }))
    else .waits ((s.updEntry e (fun en => { en with hold := true, holder := some t })).beginWait t (.entryHold e))

/-- A waiting command is overtaken: answered REFUSED/OVERTAKEN, with MGMT_REFUSED on its object (R157,
R158). -/
def State.overtake (s : State) (t : Tag) (c : CommandObject) : State :=
  (s.endWait t .refused .overtaken).raise nodeMgmtRefused c.number

/-- ENTRY_RELEASE (R22). -/
def cmdEntryRelease (s : State) (arg : Byte) : Verdict :=
  match s.entryArg arg with
  | none => .badValue
  | some e =>
    let s1 := s.updEntry e (fun en => { en with hold := false, holder := none })
    match (s.entry e).holder with
    | none => .done s1
    | some h => .done (s1.overtake h .entryHold)

/-- ENTRY_BAR (R23). -/
def cmdEntryBar (s : State) (arg : Byte) : Verdict :=
  match s.entryArg arg with
  | none => .badValue
  | some e => .done (s.updEntry e (fun en => { en with barred := true }))

/-- ENTRY_UNBAR (R23). -/
def cmdEntryUnbar (s : State) (arg : Byte) : Verdict :=
  match s.entryArg arg with
  | none => .badValue
  | some e => .done (s.updEntry e (fun en => { en with barred := false }))

end Sys2Proof.Machine
end

