-- ==== Sys2Proof/Machine/ReplyStore.lean ====
section
/-! DEFINITION. The reply store: descriptors and their data, pins, local answers, stream cursors, mirror states
and fill claims (R53 to R75). -/

namespace Sys2Proof.Machine

/-! ### Claims (R70) -/

/-- The record's claim is cleared, with the holder's flag (R70). -/
def State.dropClaim (s : State) (r : RecordNo) : State :=
  match (s.record r).claim with
  | none => s
  | some t =>
    (s.updRecord r (fun rc => { rc with claim := none })).updSlot t (fun sl => { sl with fillClaim := false })

/-- A slot takes the record's claim, replacing any earlier holder (R69, R70). -/
def State.takeClaim (s : State) (r : RecordNo) (t : Tag) : State :=
  ((s.dropClaim r).updRecord r (fun rc => { rc with claim := some t })).updSlot t
    (fun sl => { sl with fillClaim := true })

/-- The record that a slot holds the claim of. -/
def State.claimedRecord (s : State) (t : Tag) : Option RecordNo :=
  if (s.slot t).fillClaim then (indexes 48).find? (fun r => (s.record r).claim = some t) else none

/-- A claiming slot leaves the segment side without a filling outcome (R72). -/
def State.releaseClaim (s : State) (t : Tag) : State :=
  match s.claimedRecord t with
  | none => s
  | some r => s.dropClaim r

/-- A mirror record's copy is no longer usable (R66). -/
def Record.invalidate (rc : Record) : Record := { rc with mirrorState := .invalid, age := 0 }

/-- A mirror record's copy becomes usable (R66). -/
def Record.validate (rc : Record) : Record := { rc with mirrorState := .valid, age := 0 }

/-- Whether an outcome of a claiming slot fills its record (R71). -/
def fills (function : Byte) (st : Status) : Bool := st = .done && (function = fnRead || function = fnWrite)

/-- A mirror fill: the region takes the payload at the start of the slot's frame buffer (R71). -/
def State.fill (s : State) (t : Tag) (r : RecordNo) : State :=
  ((((s.writeStore (s.record r).base ((s.slotBuffer t).take (s.record r).length)).updRecord r
    Record.validate).dropClaim r)).updCounters (fun c => { c with mirrorFills := satInc c.mirrorFills })

/-- The fill or the release of a claim at an outcome (R71, R72). -/
def State.settleClaim (s : State) (t : Tag) (st : Status) : State :=
  match s.claimedRecord t with
  | none => s
  | some r =>
    if fills (s.slot t).function st then
      if (s.record r).pins = 0 then s.fill t r
      else (s.dropClaim r).updCounters (fun c => { c with mirrorFillSkips := satInc c.mirrorFillSkips })
    else s.dropClaim r

/-- What a queued forward of a MIRROR record does to the record (R45 step 5, R68, R69). -/
def State.mirrorQueued (s : State) (r : RecordNo) (q : Request) : State :=
  if q.function = fnRead then
    if (s.record r).mirrorState = .invalid ∧ (s.record r).claim = none ∧ q.position = 0
        ∧ q.reqLen.toNat = (s.record r).length then s.takeClaim r q.tag
    else s
  else if q.function = fnWrite then
    if q.position = 0 ∧ q.payload.length = (s.record r).length then
      (s.updRecord r Record.invalidate).takeClaim r q.tag
    else (s.updRecord r Record.invalidate).dropClaim r
  else if q.function = fnExchange then (s.updRecord r Record.invalidate).dropClaim r
  else s

/-! ### Descriptors (R55, R56) -/

/-- Whether two regions share a byte; a record of kind NONE has no region (R53). -/
def regionsOverlap (a b : Record) : Bool :=
  a.size ≠ 0 && b.size ≠ 0 && decide (a.base < b.base + b.size) && decide (b.base < a.base + a.size)

/-- Whether the new region overlaps the region of another record (R55 check 4). -/
def State.overlapsOther (s : State) (n : RecordNo) (new : Record) : Bool :=
  (indexes 48).any (fun m => m ≠ n && regionsOverlap new (s.record m))

/-- Whether a valid steering entry names a record (R55 check 6). -/
def State.referenced (s : State) (n : RecordNo) : Bool :=
  s.entries.toList.any (fun e => e.valid && e.action.record? = some n)

/-- A write of a descriptor object: the checks of R55 in their order, then the write of R56. -/
def writeDescriptor (s : State) (n : RecordNo) (p : List Byte) : Verdict :=
  match descriptorOf p with
  | none => .badValue
  | some new =>
    if Config.storeSize < new.base + new.size then .badValue
    else if s.overlapsOther n new then .badValue
    else if 0 < (s.record n).pins then .refused .busy .inUse
    else if s.referenced n && (new.kind ≠ (s.record n).kind || new.kind = .none) then
      .refused .refused .referenced
    else .done ((s.dropClaim n).updRecord n (fun _ => new))

/-! ### Record data (R59, R60) -/

/-- The bytes a READ of record data returns before truncation, or none when it is refused (R59). -/
def State.recordData (s : State) (n : RecordNo) (position : Nat) : Option (List Byte) :=
  if (s.record n).kind = .none ∨ (s.record n).size ≤ position then none
  else some (Memory.readRun s.rst.store ((s.record n).base + position) ((s.record n).size - position))

/-- What an accepted data write does to a MIRROR record (R60). -/
def State.dataWritten (s : State) (n : RecordNo) (position len : Nat) : State :=
  if (s.record n).kind = .mirror then
    if position = 0 ∧ len = (s.record n).length then (s.updRecord n Record.validate).dropClaim n
    else (s.updRecord n Record.invalidate).dropClaim n
  else s

/-- A write of a record data object: the checks of R60 in their order, then the copy. -/
def writeRecordData (s : State) (n : RecordNo) (position : Nat) (p : List Byte) : Verdict :=
  if (s.record n).kind = .none then .badValue
  else if p.length = 0 then .badValue
  else if (s.record n).size < position + p.length then .badValue
  else if 0 < (s.record n).pins then .refused .busy .inUse
  else .done ((s.writeStore ((s.record n).base + position) p).dataWritten n position p.length)

/-! ### Record commands (R65, R73) -/

/-- STREAM_REWIND (R65). -/
def cmdStreamRewind (s : State) (arg : Byte) : Verdict :=
  match indexOf 48 arg with
  | none => .badValue
  | some r =>
    if (s.record r).kind = .stream then
      .done (s.updRecord r (fun rc => { rc with cursor := 0, remaining := rc.total }))
    else .badValue

/-- MIRROR_INVALIDATE (R73). -/
def cmdMirrorInvalidate (s : State) (arg : Byte) : Verdict :=
  match indexOf 48 arg with
  | none => .badValue
  | some r =>
    if (s.record r).kind = .mirror then .done ((s.updRecord r Record.invalidate).dropClaim r)
    else .badValue

/-! ### Answers (R58, R61 to R68) -/

/-- A local answer of `n` store bytes: the record is pinned, unless the answer carries no payload (R58). -/
def State.answerBytes (s : State) (t : Tag) (r : RecordNo) (offset n : Nat) : State :=
  if n = 0 then s.respond t .done .none .none
  else (s.updRecord r (fun rc => { rc with pins := rc.pins + 1 })).respond t .done .none (.record r offset n)

/-- Whether a function reads: READ or EXCHANGE. -/
def readsBack (function : Byte) : Bool := function = fnRead || function = fnExchange

/-- The answer from a FIXED record (R61). -/
def State.fixedAnswer (s : State) (q : Request) (r : RecordNo) : State :=
  if readsBack q.function then
    s.answerBytes q.tag r (s.record r).base (min q.reqLen.toNat (s.record r).length)
  else s.respond q.tag .done .none .none

/-- The size of the next chunk (R62). -/
def Record.nextChunk (rc : Record) (reqLen : Nat) : Nat := min rc.chunk (min reqLen rc.remaining)

/-- The cursor moves past a chunk (R62 step 3). -/
def Record.advance (rc : Record) (n : Nat) : Record :=
  { rc with cursor := rc.cursor + n, remaining := rc.remaining - n }

/-- The answer of the next chunk of a STREAM record, with STREAM_END when it brings remaining to 0 (R62,
R63). -/
def State.chunkAnswer (s : State) (q : Request) (r : RecordNo) : State :=
  let n := (s.record r).nextChunk q.reqLen.toNat
  let s1 := (s.answerBytes q.tag r ((s.record r).base + (s.record r).cursor) n).updRecord r
    (fun rc => rc.advance n)
  if n ≠ 0 ∧ (s.record r).remaining = n then s1.raise nodeStreamEnd (halfNat r) else s1

/-- The answer from a STREAM record, when the request is not forwarded (R62 to R64). -/
def State.streamAnswer (s : State) (q : Request) (r : RecordNo) : State :=
  if readsBack q.function then
    if (s.record r).remaining = 0 then s.respond q.tag .refused .exhausted .none
    else s.chunkAnswer q r
  else s.respond q.tag .done .none .none

/-- Whether a request on a STREAM record goes down the forward path: an exhausted READ under exhausted action
FORWARD (R64). -/
def State.streamForwards (s : State) (q : Request) (r : RecordNo) (x : Fallback) : Bool :=
  q.function = fnRead && (s.record r).remaining = 0 && x = .forward

/-- Whether a VALID record has passed its max age (R67). -/
def Record.stale (rc : Record) : Bool :=
  rc.mirrorState = .valid && rc.maxAge ≠ 0 && decide (rc.maxAge.toNat ≤ rc.age.toNat)

/-- The freshness judgement of a READ hit (R67). -/
def State.judgeFreshness (s : State) (r : RecordNo) : State :=
  if (s.record r).stale then (s.updRecord r Record.invalidate).raise nodeMirrorStale (halfNat r) else s

/-- Whether a READ is served from a MIRROR record, after the freshness judgement (R68). -/
def State.mirrorServes (s : State) (q : Request) (r : RecordNo) : Bool :=
  (s.record r).mirrorState = .valid && q.position = 0 && decide (q.reqLen.toNat ≤ (s.record r).length)

/-- One 1 ms tick on a record: the age of a VALID mirror rises by 1, saturating (R66). -/
def Record.tick (rc : Record) : Record :=
  if rc.kind = .mirror ∧ rc.mirrorState = .valid then { rc with age := satInc rc.age } else rc

end Sys2Proof.Machine
end

