-- ==== Sys2Proof/Machine/Stations.lean ====
section
/-! DEFINITION. The station table: reports of transactions and probes, presence, and the station commands (R102
to R112). -/

namespace Sys2Proof.Machine

/-- A request success on a record (R104). -/
def StationRecord.succeed (rc : StationRecord) : StationRecord :=
  if rc.presence = .absent then rc else { rc with presence := .present, failures := 0 }

/-- The failure count raised by one, staying at 15 (R105 step 1). -/
def raisedFailures (c : Fin 16) : Fin 16 := if h : c.val < 15 then ⟨c.val + 1, by omega⟩ else c

/-- A request failure on a record, against the absence threshold (R105). -/
def StationRecord.fail (rc : StationRecord) (threshold : Fin 16) : StationRecord :=
  let c := raisedFailures rc.failures
  if rc.presence = .absent then { rc with failures := c }
  else if c.val < threshold.val then { rc with presence := .suspect, failures := c }
  else { rc with presence := .absent, failures := c }

/-- Whether a request failure makes the record ABSENT (R105, R106). -/
def StationRecord.lostBy (rc : StationRecord) (threshold : Fin 16) : Bool :=
  rc.presence ≠ .absent && decide (threshold.val ≤ (raisedFailures rc.failures).val)

/-- A request success is reported for a station (R104); station 0 has no record (R89). -/
def State.requestSuccess (s : State) (st : Station) : State :=
  match stationRecordOf st with
  | none => s
  | some i => s.updStation i StationRecord.succeed

/-- A request failure is reported for a station by segment x: LOST is raised when the record becomes ABSENT, on
the node of its home segment, or of x when it has none (R105, R106). -/
def State.requestFailure (s : State) (x : Seg) (st : Station) : State :=
  match stationRecordOf st with
  | none => s
  | some i =>
    let s1 := s.updStation i (fun rc => rc.fail s.mga.absenceThreshold)
    if (s.station i).lostBy s.mga.absenceThreshold then
      s1.raise (nodeLost ((s.station i).home.getD x)) (stationDetail st)
    else s1

/-- A probe success on segment x: the station is PRESENT and FOUND_x raised (R107). -/
def State.probeSuccess (s : State) (x : Seg) (i : StationNo) : State :=
  (s.updStation i (fun rc => { rc with presence := .present, failures := 0 })).raise (nodeFound x)
    (stationDetail (stationOf i))

/-- A write of a station record object (R103). -/
def writeStation (s : State) (i : StationNo) (p : List Byte) : Verdict :=
  match homeOf (byteAt p 0) with
  | none => .badValue
  | some home => .done (s.updStation i (fun _ => { home := home, presence := .unknown, failures := 0 }))

/-- STATION_FORGET (R110). -/
def cmdStationForget (s : State) (arg : Byte) : Verdict :=
  match stationArg arg with
  | none => .badValue
  | some i => .done (s.updStation i (fun rc => { rc with presence := .unknown, failures := 0 }))

end Sys2Proof.Machine
end

