-- ==== Sys2Proof/Machine/Segments.lean ====
section
/-! DEFINITION. The segment controllers: dispatch, transactions, outcomes, probes, and the enable and disable
commands (R76 to R101). -/

namespace Sys2Proof.Machine

/-! ### Starting a frame on a segment -/

/-- The request that a slot holds, with the payload at the start of its frame buffer (R47, R81). -/
def State.slotRequest (s : State) (t : Tag) : Request where
  station  := (s.slot t).station
  function := (s.slot t).function
  tag      := t
  object   := (s.slot t).object
  position := (s.slot t).position
  reqLen   := (s.slot t).reqLen
  payload  := (s.slotBuffer t).take (s.slot t).payloadLen

/-- The PING of a probe (R93). -/
def probeRequest (i : StationNo) : Request where
  station  := stationOf i
  function := fnPing
  tag      := 0
  object   := 0
  position := 0
  reqLen   := 0
  payload  := []

/-- The engine enters SENDING with a frame; a frame being received is lost (R78, R82). -/
def Segment.send (g : Segment) (c : Carried) (frame : List Byte) : Segment :=
  { g with engine := .sending, carried := c, failure := none, responseTimer := none, gapTimer := none,
           frame := frame, rx := g.rx.lose }

/-- The engine enters GAP with the work it goes on carrying and the failure of its last attempt; the gap timer
starts (R78, R85). -/
def Segment.enterGap (g : Segment) (c : Carried) (f : Option AttemptFailure) : Segment :=
  { g with engine := .gap, carried := c, failure := f, responseTimer := none,
           gapTimer := some Config.gapTicks, frame := [] }

/-- The engine enters IDLE: nothing is carried and the final mark is cleared (R86, R96, R98). -/
def Segment.rest (g : Segment) : Segment :=
  { g with engine := .idle, carried := .nothing, failure := none, finalMark := false, responseTimer := none,
           gapTimer := none, frame := [] }

/-- Change the five counters of a segment. -/
def Segment.count (g : Segment) (f : SegCounters → SegCounters) : Segment := { g with counters := f g.counters }

/-- A transaction begins (R81). -/
def State.beginTransaction (s : State) (x : Seg) (t : Tag) : State :=
  (s.updSlot t (fun sl => { sl with state := .onWire, attempts := 1 })).updSeg x
    (fun g => ({ g with finalMark := false }.send (.slot t) (requestFrame (s.slotRequest t))).count
      (fun c => { c with transactions := satInc c.transactions }))

/-! ### Dispatch (R79, R80, R92) -/

/-- A slot leaves the segment side without a transaction: ABSENT at dispatch, or SEGMENT_DOWN at a disable
(R12, R72, R80, R95). -/
def State.turnAway (s : State) (t : Tag) (st : Status) : State :=
  ((s.leaveEntry t none).releaseClaim t).respond t st .none .none

/-- The queue head is taken: heads whose station is ABSENT are answered in turn, and the first other head
begins its transaction (R80). -/
def State.takeHead (x : Seg) : List Tag → State → State
  | [], s => s.updSeg x (fun g => { g with queue := [] })
  | t :: q, s =>
    let s1 := s.updSeg x (fun g => { g with queue := q })
    if s1.isAbsent (s1.slot t).station then State.takeHead x q (s1.turnAway t .absent)
    else s1.beginTransaction x t

/-- The stations in the order of a probe search: from the pointer up, 126 wrapping to 1 (R92). -/
def probeOrder (p : StationNo) : List StationNo := (indexes 126).map (fun i => p + i)

/-- The station to probe: the first that is homed on the segment and ABSENT (R92). -/
def State.probeSearch (s : State) (x : Seg) : Option StationNo :=
  (probeOrder (s.seg x).probePointer).find?
    (fun i => (s.station i).home = some x && (s.station i).presence = .absent)

/-- A probe is sent and the pointer advances past its station (R92, R93). -/
def State.beginProbe (s : State) (x : Seg) (i : StationNo) : State :=
  s.updSeg x (fun g => { g with probePointer := i + 1 }.send (.probe i) (requestFrame (probeRequest i)))

/-- Whether a segment dispatches (R79). -/
def Segment.mayDispatch (g : Segment) : Bool :=
  g.engine = .idle && g.segState = .enabled && (g.probeDue || !g.queue.isEmpty)

/-- A dispatch, when its conditions hold: a due probe first, then the queue head (R79). -/
def State.dispatch (s : State) (x : Seg) : State :=
  if (s.seg x).mayDispatch then
    if (s.seg x).probeDue then
      let s1 := s.updSeg x (fun g => { g with probeDue := false })
      match s1.probeSearch x with
      | some i => s1.beginProbe x i
      | none => State.takeHead x (s1.seg x).queue s1
    else State.takeHead x (s.seg x).queue s
  else s

/-! ### Outcomes (R87 to R89) -/

/-- The upstream response of a transaction ended by an accepted response (R87). -/
def acceptedOutcome (sl : Slot) (status : Byte) (n : Nat) : Status × Reason × PayloadSource :=
  if status = 1 then (.busy, .station, .none)
  else if status = 2 then (.refused, .station, .none)
  else if readsBack sl.function then
    if n = sl.reqLen.toNat then (.done, .none, .buffer n)
    else if n < sl.reqLen.toNat then (.short, .none, .buffer n)
    else (.overrun, .none, .none)
  else if n = 0 then (.done, .none, .buffer 0)
  else (.overrun, .none, .none)

/-- Steps 2 to 4 of R88: the entry, the mirror, the return. -/
def State.handOn (s : State) (t : Tag) (o : Status × Reason × PayloadSource) : State :=
  ((s.leaveEntry t (some o.1)).settleClaim t o.1).respond t o.1 o.2.1 o.2.2

/-- The upstream status of a transaction whose last permitted attempt failed (R87). -/
def AttemptFailure.status : AttemptFailure → Status
  | .noAnswer => .noAnswer
  | .corrupt => .corrupt

/-- The outcome of a transaction that failed: SEG_FAIL, the failure report, then the rest of R88. -/
def State.failOutcome (s : State) (x : Seg) (t : Tag) (f : AttemptFailure) : State :=
  ((s.raise (nodeSegFail x) (stationDetail (s.slot t).station)).requestFailure x (s.slot t).station).handOn t
    (f.status, .none, .none)

/-- The engine reaches IDLE: a drain ends, or the controller may dispatch (R86, R96, R98). -/
def State.engineRests (s : State) (x : Seg) : State :=
  let s1 := s.updSeg x Segment.rest
  if (s1.seg x).segState = .draining then
    let s2 := s1.updSeg x (fun g => { g with segState := .disabled, waitingDisable := none })
    match (s1.seg x).waitingDisable with
    | none => s2
    | some t => s2.endWait t .done .none
  else s1.dispatch x

/-! ### The ends of attempts (R82 to R86, R93) -/

/-- An attempt fails: a carried slot goes on through the gap, a carried probe is over (R85, R93). -/
def Segment.failAttempt (g : Segment) (f : AttemptFailure) : Segment :=
  match g.carried with
  | .slot t => g.enterGap (.slot t) (some f)
  | .probe _ => g.enterGap .nothing none
  | .nothing => g.enterGap .nothing none

/-- An attempt ends CORRUPT (R85). -/
def Segment.corruptAttempt (g : Segment) : Segment :=
  (g.failAttempt .corrupt).count (fun c => { c with corrupt := satInc c.corrupt })

/-- An attempt ends NO_ANSWER (R85). -/
def Segment.timeoutAttempt (g : Segment) : Segment :=
  (g.failAttempt .noAnswer).count (fun c => { c with timeouts := satInc c.timeouts })

/-- A stray is counted (R84). -/
def Segment.stray (g : Segment) : Segment := g.count (fun c => { c with stray := satInc c.stray })

/-- Whether a response matches the carried work (R83). -/
def State.matchesWork (s : State) (c : Carried) (r : Response) : Bool :=
  match c with
  | .nothing => false
  | .slot t => r.station = byteOf (s.slot t).station && r.tag = byteOf t
  | .probe i => r.station = byteOf (stationOf i) && r.tag = 0

/-- The payload of an accepted response is written to the slot's frame buffer, when it has any bytes (R47,
R83 step 2). -/
def State.storeResponse (s : State) (t : Tag) (payload : List Byte) : State :=
  match payload, (s.slot t).frameBuf with
  | [], _ => s
  | _ :: _, none => s
  | _ :: _, some k => s.writeFrameBuffer k payload

/-- An accepted response (R83, R93). -/
def State.acceptResponse (s : State) (x : Seg) (r : Response) : State :=
  match (s.seg x).carried with
  | .nothing => s
  | .slot t =>
    ((((s.updSeg x (fun g => { g with responseTimer := none })).storeResponse t r.payload).requestSuccess
      (s.slot t).station).handOn t (acceptedOutcome (s.slot t) r.status r.payload.length)).updSeg x
        (fun g => g.enterGap .nothing none)
  | .probe i => (s.probeSuccess x i).updSeg x (fun g => g.enterGap .nothing none)

/-- A received frame is judged by the engine's state (R82, R83). -/
def State.judgeSegmentFrame (s : State) (x : Seg) (frame : Option Response) : State :=
  match (s.seg x).segState, (s.seg x).engine with
  | .disabled, _ => s
  | _, .sending => s
  | _, .idle => s.updSeg x Segment.stray
  | _, .gap => s.updSeg x Segment.stray
  | _, .awaiting =>
    match frame with
    | none => s.updSeg x Segment.corruptAttempt
    | some r =>
      if s.matchesWork (s.seg x).carried r then
        if r.status = 0 ∨ r.status = 1 ∨ r.status = 2 then s.acceptResponse x r
        else s.updSeg x Segment.corruptAttempt
      else s.updSeg x Segment.stray

/-- The end of a frame on a segment: the receiver is READY and the frame is judged, unless it was lost (R82,
R167). -/
def State.segmentFrameRxEnd (s : State) (x : Seg) : State :=
  let rx := (s.seg x).rx
  let s1 := s.updSeg x (fun g => { g with rx := Receiver.idle })
  match rx.state with
  | .ready => s
  | .waitIdle => s1
  | .receiving => if rx.lost then s1 else s1.judgeSegmentFrame x (checkResponse rx.bytes rx.count)

/-- The end of a segment request frame (R81, R89). -/
def State.segmentFrameTxEnd (s : State) (x : Seg) : State :=
  let await := s.updSeg x (fun g =>
    { g with engine := .awaiting, responseTimer := some g.respTimeout, frame := [] })
  match (s.seg x).engine, (s.seg x).carried with
  | .sending, .slot t =>
    if (s.slot t).station = 0 then
      (s.handOn t (.done, .none, .buffer 0)).updSeg x (fun g => g.enterGap .nothing none)
    else await
  | .sending, .probe _ => await
  | _, _ => s

/-- The response timer expires (R85). -/
def State.responseTimerExpiry (s : State) (x : Seg) : State :=
  if (s.seg x).engine = .awaiting ∧ (s.seg x).responseTimer.isSome then s.updSeg x Segment.timeoutAttempt
  else s

/-- Whether a slot is sent again at the end of its gap (R86). -/
def State.retries (s : State) (x : Seg) (t : Tag) : Bool :=
  decide ((s.slot t).attempts ≤ (s.seg x).retryLimit.val) && !(s.seg x).finalMark

/-- A retry (R86). -/
def State.retry (s : State) (x : Seg) (t : Tag) : State :=
  (s.updSlot t (fun sl => { sl with attempts := sl.attempts + 1 })).updSeg x
    (fun g => (g.send (.slot t) (requestFrame (s.slotRequest t))).count
      (fun c => { c with retries := satInc c.retries }))

/-- The decision at the end of a gap (R86). -/
def State.gapEnd (s : State) (x : Seg) : State :=
  match (s.seg x).engine, (s.seg x).carried with
  | .gap, .slot t =>
    if s.retries x t then s.retry x t
    else (s.failOutcome x t ((s.seg x).failure.getD .noAnswer)).engineRests x
  | .gap, _ => s.engineRests x
  | _, _ => s

/-! ### The probe timer (R91) -/

/-- The probe timer expires: a probe is due and the timer starts again (R91). -/
def State.probeTimerExpiry (s : State) (x : Seg) : State :=
  if (s.seg x).probeTimer.isSome then
    (s.updSeg x (fun g => { g with probeDue := true, probeTimer := some g.probeInterval })).dispatch x
  else s

/-! ### Configuration, enabling and disabling (R94 to R98) -/

/-- A write of a segment configuration object (R94). -/
def writeSegmentConfig (s : State) (x : Seg) (p : List Byte) : Verdict :=
  let timeout := byteAt p 0
  let interval := halfOf (byteAt p 2) (byteAt p 3)
  match indexOf 8 (byteAt p 1) with
  | none => .badValue
  | some limit =>
    if timeout = 0 ∨ interval = 0 then .badValue
    else .done (s.updSeg x (fun g =>
      { g with respTimeout := timeout, retryLimit := limit, probeInterval := interval }))

/-- A segment becomes ENABLED: its probe timer starts and no probe is due (R91, R98). -/
def Segment.enable (g : Segment) : Segment :=
  { g with segState := .enabled, probeTimer := some g.probeInterval, probeDue := false }

/-- SEGMENT_ENABLE (R98), with the dispatch of R79 when it finds work waiting. -/
def cmdSegmentEnable (s : State) (arg : Byte) : Verdict :=
  match segOf arg with
  | none => .badValue
  | some x =>
    match (s.seg x).segState with
    | .enabled => .done (s.dispatch x)
    | .disabled => .done ((s.updSeg x Segment.enable).dispatch x)
    | .draining =>
      let s1 := s.updSeg x (fun g => { g.enable with waitingDisable := none })
      match (s.seg x).waitingDisable with
      | none => .done (s1.dispatch x)
      | some t => .done ((s1.overtake t .segmentDisable).dispatch x)

/-- The queued slots are answered SEGMENT_DOWN, each in queue order (R95 step 2). -/
def State.answerDown : List Tag → State → State
  | [], s => s
  | t :: q, s => State.answerDown q (s.turnAway t .segmentDown)

/-- A segment that carries work begins to drain for a waiting SEGMENT_DISABLE (R95 step 3). -/
def State.beginDrain (s : State) (x : Seg) (t : Tag) (mark : Bool) : State :=
  (s.updSeg x (fun g =>
    { g with segState := .draining, finalMark := g.finalMark || mark, waitingDisable := some t })).beginWait t
      (.segmentDisable x)

/-- SEGMENT_DISABLE (R95, R97). -/
def cmdSegmentDisable (s : State) (t : Tag) (arg : Byte) : Verdict :=
  match segOf arg with
  | none => .badValue
  | some x =>
    match (s.seg x).segState with
    | .disabled => .done s
    | .draining => .refused .refused .pending
    | .enabled =>
      let s1 := State.answerDown (s.seg x).queue
        (s.updSeg x (fun g => { g with probeTimer := none, probeDue := false, queue := [] }))
      match (s.seg x).carried with
      | .slot _ => .waits (s1.beginDrain x t true)
      | .probe _ => .waits (s1.beginDrain x t false)
      | .nothing => .done (s1.updSeg x (fun g => { g with segState := .disabled }))

end Sys2Proof.Machine
end

