-- ==== Sys2Proof/Machine/Return.lean ====
section
/-! DEFINITION. The return path: the arbiter, the composition of frames, the ends of frames, and the restarts
that the end of a RESTART's frame performs (R113 to R125, R161 to R164). -/

namespace Sys2Proof.Machine

/-! ### Composition (R117 to R119) -/

/-- The payload that a slot's payload source names (R117). -/
def State.responsePayload (s : State) (t : Tag) : List Byte :=
  match (s.slot t).source with
  | none => []
  | some .none => []
  | some (.buffer n) => (s.slotBuffer t).take n
  | some (.record _ offset n) => Memory.readRun s.rst.store offset n
  | some (.management n) =>
    match (s.slot t).mgmtBuf with
    | none => []
    | some k => s.ort.mgmtBuffers[k].take n

/-- A slot's response frame (R117). -/
def State.slotResponse (s : State) (t : Tag) : List Byte :=
  responseFrame (s.slot t).station t (((s.slot t).status.map Status.code).getD 0)
    (((s.slot t).reason.map Reason.code).getD 0) (s.responsePayload t)

/-- A clash frame (R50, R119). -/
def clashFrame (c : ClashEntry) : List Byte := responseFrame c.station c.tag Status.tagInUse.code c.function []

/-! ### The start of transmission (R115) -/

/-- The transmitter begins a frame (R114). -/
def ReturnPath.begin (p : ReturnPath) (c : TxCarried) (frame : List Byte) : ReturnPath :=
  { p with txState := .transmitting, carries := c, frame := frame }

/-- The offered node, when a notice frame is due (R115). -/
def NoticeUnit.dueNode (n : NoticeUnit) : Option NodeNo := if n.due then n.offer.map Offer.node else none

/-- A notice frame starts: the latch takes the node and the due condition ends (R118). -/
def State.startNotice (s : State) (k : NodeNo) : State :=
  (s.updReturn (fun p =>
    { p with latch := s.ntu.latchOf k }.begin .notice (noticeFrame (s.ntu.latchOf k)))).updNotices
      (fun n => { n with due := false })

/-- A slot's response frame starts: the head leaves the return queue and goes SENDING (R113, R115). -/
def State.startResponse (s : State) (t : Tag) (q : List Tag) : State :=
  (s.updSlot t (fun sl => { sl with state := .sending })).updReturn
    (fun p => { p with queue := q }.begin (.slot t) (s.slotResponse t))

/-- The arbiter: a due notice frame, else the clash queue head, else the return queue head (R115). -/
def State.arbiter (s : State) : State :=
  match s.ntu.dueNode, s.ort.clashQueue, s.rtp.queue with
  | some k, _, _ => s.startNotice k
  | none, c :: _, _ => s.updReturn (fun p => p.begin .clash (clashFrame c))
  | none, [], t :: q => s.startResponse t q
  | none, [], [] => s

/-- A start of transmission, when the transmitter is IDLE (R115). -/
def State.start (s : State) : State := if s.rtp.txState = .idle then s.arbiter else s

/-! ### The ends of frames (R120, R121) -/

/-- The transmitter enters SPACING (R114). -/
def ReturnPath.space (p : ReturnPath) : ReturnPath :=
  { p with txState := .spacing, carries := .nothing, frame := [] }

/-- The pin that a slot's payload source placed is released (R31, R58). -/
def State.unpin (s : State) (t : Tag) : State :=
  match (s.slot t).source with
  | some (.record r _ _) => s.updRecord r (fun rc => { rc with pins := rc.pins - 1 })
  | some .none => s
  | some (.buffer _) => s
  | some (.management _) => s
  | none => s

/-- A slot is freed; its buffers return with it (R31). -/
def State.freeSlot (s : State) (t : Tag) : State := (s.unpin t).updSlot t (fun _ => {})

/-- A response frame is counted (R123). -/
def State.countResponse (s : State) : State :=
  s.updCounters (fun c => { c with txResponses := satInc c.txResponses })

/-! ### Restarts (R163, R164) -/

/-- A segment at the performance of RESTART TRAFFIC (R101). -/
def Segment.restartTraffic (g : Segment) : Segment :=
  { g.rest with
    segState := if g.segState = .enabled then .enabled else .disabled
    queue := []
    probeTimer := if g.segState = .enabled then some g.probeInterval else none
    probeDue := false
    waitingDisable := none }

/-- RESTART TRAFFIC, as performed (R163 and the rules it names). -/
def State.performTraffic (s : State) : State :=
  { s with
    ort := { s.ort with slots := Vector.replicate 32 {}, clashQueue := [] }
    entries := mapAll s.entries (fun e => { e with inFlight := 0, holder := none })
    rst := { s.rst with records := mapAll s.rst.records (fun r => { r with pins := 0, claim := none }) }
    segA := s.segA.restartTraffic
    segB := s.segB.restartTraffic
    rtp := { s.rtp with queue := [] }
    ntu := s.ntu.restartTraffic s.mga.baseFloor
    mga := { s.mga with pendingRecords := [], restart := none } }

/-- Every block at its power-on values and every receiver in WAIT_IDLE; the commands that wait and the free
values' counter are the model's own and stay (R165, R166). -/
def State.powerOn (s : State) : State :=
  { State.reset with freeIndex := s.freeIndex, pending := s.pending }

/-- RESTART FULL, as performed at the end of its frame: power-on values, but every receiver in its state
(R164, R167) and the transmitter in the spacing that follows the frame (R124; log 10). -/
def State.performFull (s : State) : State :=
  { s.powerOn with
    rtp := ({} : ReturnPath).space
    upRx := s.upRx
    segA := { State.reset.segA with rx := s.segA.rx }
    segB := { State.reset.segB with rx := s.segB.rx }
    resetAsserted := s.resetAsserted }

/-- The restart that is pending on a slot is performed when its frame has ended (R122). -/
def State.performRestart (s : State) (t : Tag) : State :=
  match s.mga.restart with
  | none => s
  | some r =>
    if r.tag = t then
      match r.scope with
      | .traffic => s.performTraffic
      | .full => s.performFull
    else s

/-- The end of a slot's response frame (R120). -/
def State.responseFrameEnd (s : State) : State :=
  match s.rtp.txState, s.rtp.carries with
  | .transmitting, .slot t => (((s.freeSlot t).countResponse).updReturn ReturnPath.space).performRestart t
  | _, _ => s

/-- The clash queue's head is removed (R49, R120). -/
def State.popClash (s : State) : State := { s with ort := { s.ort with clashQueue := s.ort.clashQueue.tail } }

/-- The end of a clash frame (R120). -/
def State.clashFrameEnd (s : State) : State :=
  match s.rtp.txState, s.rtp.carries with
  | .transmitting, .clash =>
    (s.popClash.countResponse).updReturn ReturnPath.space
  | _, _ => s

/-- The end of a notice frame (R121). -/
def State.noticeFrameEnd (s : State) : State :=
  match s.rtp.txState, s.rtp.carries with
  | .transmitting, .notice =>
    ((s.updNotices (fun n => n.frameEnded s.rtp.latch)).updCounters
      (fun c => { c with txNotices := satInc c.txNotices })).updReturn ReturnPath.space
  | _, _ => s

/-- The end of the spacing: the transmitter is IDLE, and a frame starts if anything waits (R114). -/
def State.spacingEnd (s : State) : State :=
  if s.rtp.txState = .spacing then (s.updReturn (fun p => { p with txState := .idle })).start else s

/-- The repeat timer expires: a notice frame is due again (R135). -/
def State.repeatTimerExpiry (s : State) : State :=
  if s.ntu.repeatTimer.isSome then (s.updNotices (fun n => { n with due := true, repeatTimer := none })).start
  else s

end Sys2Proof.Machine
end

