-- ==== Sys2Proof/Machine/Management.lean ====
section
/-! DEFINITION. The management agent: validation, READ, WRITE, EXCHANGE and PING of station 127, the
configuration objects, the commands of no other block, and refusals (R147 to R162). -/

namespace Sys2Proof.Machine

/-- The checks that a request of any station meets before anything else: READ or PING with a payload, and a
requested length above 240 of a function other than WRITE (R37 checks 1 and 2, R148). -/
def badLength (q : Request) : Bool :=
  ((q.function = fnRead || q.function = fnPing) && q.payload.length ≠ 0)
    || (q.function ≠ fnWrite && decide (240 < q.reqLen.toNat))

/-- Whether a function code is one of the four (R37 check 4, R148). -/
def knownFunction (f : Byte) : Bool := f = fnRead || f = fnWrite || f = fnExchange || f = fnPing

/-! ### Configuration objects (R135, R154) -/

/-- A write of the general configuration: all three fields, then the arbitration (R154, R140). -/
def writeGeneral (s : State) (p : List Byte) : Verdict :=
  match fallbackOf (byteAt p 0), indexOf 16 (byteAt p 1), indexOf 64 (byteAt p 2) with
  | some miss, some threshold, some base =>
    if threshold = 0 then .badValue
    else .done ((s.updAgent (fun m =>
      { m with missAction := miss, absenceThreshold := threshold, baseFloor := base })).updNotices
        (fun n => n.setBaseFloor base))
  | _, _, _ => .badValue

/-- A write of the notice configuration: the repeat interval, without arbitration (R135). -/
def writeNoticeConfig (s : State) (p : List Byte) : Verdict :=
  if byteAt p 0 = 0 then .badValue
  else .done (s.updNotices (fun n => { n with repeatInterval := byteAt p 0 }))

/-- A write of a notice node: level and enabled, then the arbitration (R129). -/
def writeNode (s : State) (k : NodeNo) (p : List Byte) : Verdict :=
  match indexOf 64 (byteAt p 0), boolOf (byteAt p 1) with
  | some level, some enabled => .done (s.updNotices (fun n => n.writeNode k level enabled))
  | _, _ => .badValue

/-! ### Notice commands (R136 to R143) -/

/-- NOTICE_ACK (R136, R137). -/
def cmdNoticeAck (s : State) (arg : Byte) : Verdict :=
  match indexOf 20 arg with
  | none => .badValue
  | some k =>
    if s.ntu.acceptsAck k then .done (s.updNotices (fun n => n.ack k)) else .refused .refused .stale

/-- NOTICE_DONE (R139). -/
def cmdNoticeDone (s : State) : Verdict :=
  if s.ntu.stack.isEmpty then .refused .refused .stale
  else .done (s.updNotices (fun n => n.done s.mga.baseFloor))

/-- NOTICE_FORCE: the node check, then the flags byte (R142, R143, R177). -/
def cmdNoticeForce (s : State) (arg flags : Byte) : Verdict :=
  match indexOf 20 arg with
  | none => .badValue
  | some k =>
    if 3 < flags.toNat then .badValue
    else if flags = 1 then .done (s.updNotices (fun n => n.forceSet k))
    else if flags = 2 then .done (s.updNotices (fun n => n.forceClear k))
    else .done s

/-! ### The other commands (R160, R161) -/

/-- COUNTERS_CLEAR: all eighteen counters (R160). -/
def State.clearCounters (s : State) : State :=
  { s with
    counters := {}
    segA := { s.segA with counters := {} }
    segB := { s.segB with counters := {} } }

/-- RESTART: the restart record is set; the drop condition begins when the event ends (R34, R161). -/
def cmdRestart (s : State) (t : Tag) (arg : Byte) : Verdict :=
  match scopeOf arg with
  | none => .badValue
  | some scope => .done (s.updAgent (fun m => { m with restart := some { tag := t, scope := scope } }))

/-- The argument size of a command (R156). -/
def CommandObject.argSize : CommandObject → Nat
  | .noticeDone => 0
  | .countersClear => 0
  | .noticeForce => 2
  | .entryHold | .entryRelease | .entryBar | .entryUnbar | .streamRewind | .mirrorInvalidate => 1
  | .segmentEnable | .segmentDisable | .stationForget | .noticeAck | .restart => 1

/-- A command with an argument of its size (R156). -/
def runCommand (s : State) (t : Tag) (p : List Byte) : CommandObject → Verdict
  | .entryHold => cmdEntryHold s t (byteAt p 0)
  | .entryRelease => cmdEntryRelease s (byteAt p 0)
  | .entryBar => cmdEntryBar s (byteAt p 0)
  | .entryUnbar => cmdEntryUnbar s (byteAt p 0)
  | .streamRewind => cmdStreamRewind s (byteAt p 0)
  | .mirrorInvalidate => cmdMirrorInvalidate s (byteAt p 0)
  | .segmentEnable => cmdSegmentEnable s (byteAt p 0)
  | .segmentDisable => cmdSegmentDisable s t (byteAt p 0)
  | .stationForget => cmdStationForget s (byteAt p 0)
  | .noticeAck => cmdNoticeAck s (byteAt p 0)
  | .noticeDone => cmdNoticeDone s
  | .noticeForce => cmdNoticeForce s (byteAt p 0) (byteAt p 1)
  | .countersClear => .done s.clearCounters
  | .restart => cmdRestart s t (byteAt p 0)

/-! ### WRITE (R149, R151) -/

/-- Whether an object is known and takes a WRITE (R149). -/
def MgmtObject.writable : MgmtObject → Bool
  | .identity => false
  | .counters => false
  | .unknown => false
  | .general | .segment _ | .notice | .command _ | .entry _ | .descriptor _ | .recordData _ | .station _
  | .node _ => true

/-- Whether an object is known and takes a READ (R149). -/
def MgmtObject.readable : MgmtObject → Bool
  | .command _ => false
  | .unknown => false
  | .identity | .counters | .general | .segment _ | .notice | .entry _ | .descriptor _ | .recordData _
  | .station _ | .node _ => true

/-- Whether an object is record data, the one kind that uses the position (R150). -/
def MgmtObject.isData : MgmtObject → Bool
  | .recordData _ => true
  | .identity | .counters | .general | .segment _ | .notice | .command _ | .entry _ | .descriptor _
  | .station _ | .node _ | .unknown => false

/-- The writable size of an object; record data has none of its own (R149, R156). -/
def MgmtObject.writeSize : MgmtObject → Option Nat
  | .general => some 3
  | .segment _ => some 4
  | .notice => some 1
  | .command c => some c.argSize
  | .entry _ => some 12
  | .descriptor _ => some 8
  | .recordData _ => none
  | .station _ => some 1
  | .node _ => some 2
  | .identity => none
  | .counters => none
  | .unknown => none

/-- The write of an object by the block that owns it (R151 check 4). -/
def ownerWrite (s : State) (q : Request) : MgmtObject → Verdict
  | .general => writeGeneral s q.payload
  | .segment x => writeSegmentConfig s x q.payload
  | .notice => writeNoticeConfig s q.payload
  | .command c => runCommand s q.tag q.payload c
  | .entry n => writeEntry s n q.payload
  | .descriptor n => writeDescriptor s n q.payload
  | .recordData n => writeRecordData s n q.position.toNat q.payload
  | .station n => writeStation s n q.payload
  | .node n => writeNode s n q.payload
  | .identity => .refused .refused .badObject
  | .counters => .refused .refused .badObject
  | .unknown => .refused .refused .badObject

/-- A WRITE, or the write part of an EXCHANGE: the checks of R151 and R152 in their order. -/
def mgmtWrite (s : State) (q : Request) (o : MgmtObject) : Verdict :=
  if !o.writable || (q.function = fnExchange && !o.readable) then .refused .refused .badObject
  else if q.position ≠ 0 && !o.isData then .badValue
  else if o.writeSize.any (fun n => q.payload.length ≠ n) then .badValue
  else ownerWrite s q o

/-! ### READ (R150) -/

/-- An object's value as it stands, before truncation; none when a record data READ is refused (R59, R150). -/
def objectValue (s : State) (position : Nat) : MgmtObject → Option (List Byte)
  | .identity => some Config.identity
  | .general => some (generalBytes s.mga)
  | .segment x => some (segmentBytes (s.seg x))
  | .notice => some (noticeBytes s.ntu)
  | .counters => some (counterBytes s)
  | .entry n => some (entryBytes (s.entry n))
  | .descriptor n => some (recordBytes (s.record n))
  | .recordData n => s.recordData n position
  | .station n => some (stationBytes (s.station n))
  | .node n => some (nodeBytes (s.node n))
  | .command _ => none
  | .unknown => none

/-- The value is captured into the slot's management buffer, truncated to the requested length, and the slot
answered DONE (R48, R150). -/
def State.capture (s : State) (q : Request) (value : List Byte) : State :=
  let bytes := value.take q.reqLen.toNat
  match bytes, (s.slot q.tag).mgmtBuf with
  | [], _ => s.respond q.tag .done .none .none
  | _ :: _, none => s.respond q.tag .done .none .none
  | _ :: _, some k => (s.writeMgmtBuffer k bytes).respond q.tag .done .none (.management bytes.length)

/-- A refusal by the agent: the slot is answered and MGMT_REFUSED raised with the object as received
(R158). -/
def State.refuse (s : State) (q : Request) (st : Status) (rs : Reason) : State :=
  (s.respond q.tag st rs .none).raise nodeMgmtRefused q.object

/-- A READ (R150). -/
def State.mgmtRead (s : State) (q : Request) (o : MgmtObject) : State :=
  if !o.readable then s.refuse q .refused .badObject
  else if q.position ≠ 0 && !o.isData then s.refuse q .refused .badValue
  else
    match objectValue s q.position.toNat o with
    | none => s.refuse q .refused .badValue
    | some v => s.capture q v

/-- What a verdict gives the request's slot: an EXCHANGE reads the object back as it stands after the write
(R151, R152, R158). -/
def State.conclude (s : State) (q : Request) (o : MgmtObject) : Verdict → State
  | .refused st rs => s.refuse q st rs
  | .waits s' => s'
  | .done s' =>
    if q.function = fnExchange then s'.capture q ((objectValue s' q.position.toNat o).getD [])
    else s'.respond q.tag .done .none .none

/-- The agent decides a request whose slot holds a management buffer (R147 to R152). -/
def State.manage (s : State) (q : Request) : State :=
  if badLength q then s.refuse q .badRequest .badLength
  else if !knownFunction q.function then s.refuse q .badRequest .badFunction
  else if q.function = fnPing then s.respond q.tag .done .none .none
  else if q.function = fnRead then s.mgmtRead q (objectOf q.object)
  else s.conclude q (objectOf q.object) (mgmtWrite s q (objectOf q.object))

end Sys2Proof.Machine
end

