-- ==== Sys2Proof/Machine/Admission.lean ====
section
/-! DEFINITION. The admission unit and the upstream receiver: the acceptance decision, the forward path and the
clash queue (R33 to R50, R172). -/

namespace Sys2Proof.Machine

/-! ### The forward path (R40 to R45) -/

/-- The segment of a forward, or none for NO_ROUTE (R40). -/
def State.route (s : State) (q : Request) (e : Option EntryNo) : Option Seg :=
  if q.station = 0 then e.map (fun n => (s.entry n).broadcast)
  else match stationRecordOf q.station with
    | none => none
    | some i => (s.station i).home

/-- The origin of a forwarded request (R28). -/
def forwardOrigin : Option EntryNo → Origin
  | some _ => .steered
  | none => .missForward

/-- The entry's account in step 8f: the slot is attached, and a MIRROR record takes its actions (R45 steps 4
and 5). -/
def State.onAccount (s : State) (q : Request) : Option EntryNo → State
  | none => s
  | some e =>
    match (s.entry e).action.mirror? with
    | none => s.attach q.tag e
    | some r => (s.attach q.tag e).mirrorQueued r q

/-- Step 8f: the frame buffer, the queue, the entry and the mirror (R45). -/
def State.enqueue (s : State) (q : Request) (e : Option EntryNo) (x : Seg) (k : Fin 24) : State :=
  ((((s.occupy q (forwardOrigin e) e).updSlot q.tag (fun sl =>
      { sl with state := .queued, segment := some x, frameBuf := some k })).writeFrameBuffer k
        q.payload).updSeg x (fun g => { g with queue := g.queue ++ [q.tag] })).onAccount q e

/-- A forward is refused: its slot takes the response and nothing else (R33). -/
def State.refuseForward (s : State) (q : Request) (e : Option EntryNo) (st : Status) (rs : Reason) : State :=
  (s.occupy q (forwardOrigin e) e).respond q.tag st rs .none

/-- The forward path: the five checks in their order, then the queueing, and the dispatch that an idle engine
makes of it (R40 to R45, R79). -/
def State.forward (s : State) (q : Request) (e : Option EntryNo) : State :=
  match s.route q e with
  | none => s.refuseForward q e .noRoute .none
  | some x =>
    if s.isAbsent q.station then s.refuseForward q e .absent .none
    else if (s.seg x).segState ≠ .enabled then s.refuseForward q e .segmentDown .none
    else if Config.queueDepth ≤ (s.seg x).queue.length then
      (s.refuseForward q e .busy .queueFull).raise (nodeQueueFull x) (stationDetail q.station)
    else
      match s.freeFrameBuf with
      | none => (s.refuseForward q e .busy .poolEmpty).raise nodePoolEmpty (stationDetail q.station)
      | some k => (s.enqueue q e x k).dispatch x

/-! ### Matches and misses (R9, R10, R38, R39) -/

/-- A local answer's slot: origin LOCAL with the entry number (R28). -/
def State.occupyLocal (s : State) (q : Request) (e : EntryNo) : State := s.occupy q .localAnswer (some e)

/-- MIRROR answering: a READ is judged and served or forwarded, everything else forwarded (R67 to R69). -/
def State.mirrorAnswer (s : State) (q : Request) (e : EntryNo) (r : RecordNo) : State :=
  if q.function = fnRead then
    let s1 := s.judgeFreshness r
    if s1.mirrorServes q r then
      (s1.occupyLocal q e).answerBytes q.tag r (s1.record r).base q.reqLen.toNat
    else s1.forward q (some e)
  else s.forward q (some e)

/-- A request whose entry's flags let it pass is handed on by the entry's action (R10). -/
def State.act (s : State) (q : Request) (e : EntryNo) : State :=
  match (s.entry e).action with
  | .forward => s.forward q (some e)
  | .answer r => (s.occupyLocal q e).fixedAnswer q r
  | .stream r =>
    if s.streamForwards q r (s.entry e).exhaustedAction then s.forward q (some e)
    else (s.occupyLocal q e).streamAnswer q r
  | .mirror r => s.mirrorAnswer q e r

/-- A hit: it is counted, then the entry's flags decide, then its action (R7 to R10). -/
def State.hit (s : State) (q : Request) (e : EntryNo) : State :=
  match (s.entry e).gate with
  | some (st, rs) => ((s.countHit e).occupy q .steered (some e)).respond q.tag st rs .none
  | none => (s.countHit e).act q e

/-- A miss: the MISS event, then the default miss action (R39). -/
def State.miss (s : State) (q : Request) : State :=
  let s1 := s.raise nodeMiss (stationDetail q.station)
  match s.mga.missAction with
  | .refuse => (s1.occupy q .localAnswer none).respond q.tag .refused .miss .none
  | .forward => s1.forward q none

/-! ### The acceptance decision (R33 to R38) -/

/-- Step 4: the reason for which a request to a field station is refused, if any (R37). -/
def validation (q : Request) : Option Reason :=
  if badLength q then some .badLength
  else if q.station = 0 ∧ q.function ≠ fnWrite then some .badBroadcast
  else if !knownFunction q.function then some .badFunction
  else none

/-- A clash queue entry joins the tail (R35, R49). -/
def State.pushClash (s : State) (c : ClashEntry) : State :=
  { s with ort := { s.ort with clashQueue := s.ort.clashQueue ++ [c] } }

/-- Step 2: a clash (R35). -/
def State.clash (s : State) (q : Request) : State :=
  let s1 := s.raise nodeTagClash (halfNat q.tag)
  if s.ort.clashQueue.length < Config.clashDepth then
    s1.pushClash { tag := q.tag, station := q.station, function := q.function }
  else s1.updCounters (fun c => { c with clashDrops := satInc c.clashDrops })

/-- A management request takes its slot and management buffer (R36). -/
def State.occupyMgmt (s : State) (q : Request) (k : Fin 4) : State :=
  (s.occupy q .management none).updSlot q.tag (fun sl => { sl with mgmtBuf := some k })

/-- Step 3: a request to station 127 (R36). -/
def State.toAgent (s : State) (q : Request) : State :=
  match s.freeMgmtBuf with
  | none => (s.occupy q .localAnswer none).respond q.tag .busy .mgmtFull .none
  | some k => (s.occupyMgmt q k).manage q

/-- Steps 4 to 8: a request to a field station (R37 to R45). -/
def State.toStation (s : State) (q : Request) : State :=
  match validation q with
  | some rs => (s.occupy q .localAnswer none).respond q.tag .badRequest rs .none
  | none =>
    match s.lookup q with
    | none => s.miss q
    | some e => s.hit q e

/-- The acceptance decision of a checked request frame (R33). -/
def State.accept (s : State) (q : Request) : State :=
  if s.mga.restart.isSome then
    s.updCounters (fun c => { c with rxRestartDiscards := satInc c.rxRestartDiscards })
  else if (s.slot q.tag).state ≠ .free then s.clash q
  else if q.station = 127 then s.toAgent q
  else s.toStation q

/-! ### The upstream receiver (R167, R172) -/

/-- A checked frame is counted (R159). -/
def State.countFrame (s : State) : State := s.updCounters (fun c => { c with rxFrames := satInc c.rxFrames })

/-- A frame passes the upstream checks: RX_FRAMES is counted and the frame handed to admission (R159, R172). -/
def State.handOver (s : State) (q : Request) : State := s.countFrame.accept q

/-- A frame fails the upstream checks: it is counted and LINK_ERROR raised with its class (R172). -/
def State.linkError (s : State) (detail : Half) : State :=
  (s.updCounters (fun c => { c with rxCheckErrors := satInc c.rxCheckErrors })).raise nodeLinkError detail

/-- A frame's four checks, and what comes of them (R172). -/
def State.judgeUpstream (s : State) : Except Half Request → State
  | .error d => s.linkError d
  | .ok q => s.handOver q

/-- The upstream receiver is READY, with no frame in progress (R167). -/
def State.readyRx (s : State) : State := { s with upRx := Receiver.idle }

/-- The end of a frame on the upstream link: the receiver is READY and the frame is judged (R167, R172).  In
WAIT_IDLE the bytes were discarded and the idle line only makes the receiver READY (log 6). -/
def State.upstreamFrameEnd (s : State) : State :=
  match s.upRx.state with
  | .ready => s
  | .waitIdle => s.readyRx
  | .receiving => s.readyRx.judgeUpstream (checkRequest s.upRx.bytes s.upRx.count)

/-- A whole request frame with given fields arrives and ends on the upstream link (log 1).  A payload above 240
bytes makes the frame longer than 253 bytes and fails the first check (R172). -/
def State.receiveRequest (s : State) (q : Request) : State :=
  match s.upRx.state with
  | .waitIdle => s.readyRx
  | .ready | .receiving =>
    s.readyRx.judgeUpstream
      (if q.payload.length ≤ 240 then .ok q else .error linkLength)

end Sys2Proof.Machine
end

