-- ==== Sys2Proof/Machine/Events.lean ====
section
/-! DEFINITION. The shape of an event, and the meanings of the rows that are events of the lines, the timers and
the pins. -/

namespace Sys2Proof.Machine

/-- The outcome type of every meaning. -/
abbrev Result := Host.Outcome State Fault Refusal

/-- An event that brings about no start of transmission.  While RESET# is asserted the part holds its
power-on values and no event of it takes place (R165). -/
def quietEvent (f : State → State) (s : State) : Result := .next (if s.resetAsserted then s else f s)

/-- An event that may leave something waiting for the upstream transmitter: the start that it brings about
takes place at its end (R115; log 2). -/
def event (f : State → State) (s : State) : Result := quietEvent (fun s => (f s).start) s

/-! ### Receivers (R167) -/

/-- A byte on a segment; while the engine is SENDING its receiver takes nothing (R82).  The byte after SENDING
ends joins the frame that SENDING cut into (log 5), or begins a fresh one when none was in progress, even if
bytes before it on the line were discarded in SENDING (DESIGN CHOICE, log 13). -/
def Segment.byte (g : Segment) (b : Byte) : Segment :=
  if g.engine = .sending then g else { g with rx := g.rx.byte Config.maxResponseFrame b }

/-- A byte arrives on a line. -/
def State.byteArrival (s : State) (b : Byte) : Line → State
  | .upstream => { s with upRx := s.upRx.byte Config.maxRequestFrame b }
  | .segment x => s.updSeg x (fun g => g.byte b)

/-- A line is idle for 2 byte times: a frame in progress ends and is judged in this event, and a receiver in
WAIT_IDLE is READY (R167).  It is the end of a frame that UPSTREAM_FRAME_END and SEGMENT_FRAME_RX_END name too; a
frame is judged once, by whichever comes first (log 6). -/
def State.receiverIdleGap (s : State) : Line → State
  | .upstream => s.upstreamFrameEnd
  | .segment x => s.segmentFrameRxEnd x

/-- BYTE_ARRIVAL (R167). -/
def execByteArrival (l : Line) (b : Byte) (s : State) : Result := quietEvent (fun s => s.byteArrival b l) s

/-- RECEIVER_IDLE_GAP (R167). -/
def execReceiverIdleGap (l : Line) (s : State) : Result := event (fun s => s.receiverIdleGap l) s

/-- UPSTREAM_FRAME_END (R172). -/
def execUpstreamFrameEnd (s : State) : Result := event State.upstreamFrameEnd s

/-! ### Segments (R79 to R91) -/

/-- DISPATCH (R79). -/
def execDispatch (x : Seg) (s : State) : Result := event (fun s => s.dispatch x) s

/-- SEGMENT_FRAME_TX_END (R81, R89). -/
def execSegmentFrameTxEnd (x : Seg) (s : State) : Result := event (fun s => s.segmentFrameTxEnd x) s

/-- SEGMENT_FRAME_RX_END (R82). -/
def execSegmentFrameRxEnd (x : Seg) (s : State) : Result := event (fun s => s.segmentFrameRxEnd x) s

/-- RESPONSE_TIMER_EXPIRY (R85). -/
def execResponseTimerExpiry (x : Seg) (s : State) : Result := quietEvent (fun s => s.responseTimerExpiry x) s

/-- GAP_END (R86). -/
def execGapEnd (x : Seg) (s : State) : Result := event (fun s => s.gapEnd x) s

/-- PROBE_TIMER_EXPIRY (R91). -/
def execProbeTimerExpiry (x : Seg) (s : State) : Result := event (fun s => s.probeTimerExpiry x) s

/-! ### The reply store's clock (R66) -/

/-- A 1 ms tick on every record (R66). -/
def State.mirrorAgeTick (s : State) : State :=
  { s with rst := { s.rst with records := mapAll s.rst.records Record.tick } }

/-- MIRROR_AGE_TICK (R66). -/
def execMirrorAgeTick (s : State) : Result := quietEvent State.mirrorAgeTick s

/-! ### The upstream transmitter (R114 to R121, R135) -/

/-- START_OF_TRANSMISSION (R115). -/
def execStartOfTransmission (s : State) : Result := quietEvent State.start s

/-- RESPONSE_FRAME_END (R120). -/
def execResponseFrameEnd (s : State) : Result := quietEvent State.responseFrameEnd s

/-- CLASH_FRAME_END (R120). -/
def execClashFrameEnd (s : State) : Result := quietEvent State.clashFrameEnd s

/-- NOTICE_FRAME_END (R121). -/
def execNoticeFrameEnd (s : State) : Result := quietEvent State.noticeFrameEnd s

/-- SPACING_END (R114). -/
def execSpacingEnd (s : State) : Result := quietEvent State.spacingEnd s

/-- REPEAT_TIMER_EXPIRY (R135). -/
def execRepeatTimerExpiry (s : State) : Result := quietEvent State.repeatTimerExpiry s

/-! ### RESET# and power (R165, R166, R179) -/

/-- RESET# is taken: power-on values at once, held while the pin is low (R165). -/
def State.assertReset (s : State) : State := { s.powerOn with resetAsserted := true }

/-- RESET_ASSERT (R165); a pulse shorter than 10 µs is taken or not as the free value says (R179; log 8). -/
def execResetAssert (w : PulseWidth) (s : State) : Result :=
  match w with
  | .full => .next s.assertReset
  | .short =>
    let s' := { s with freeIndex := s.freeIndex + 1 }
    .next (if Config.shortPulseTaken s.freeIndex then s'.assertReset else s')

/-- RESET_RELEASE: the part runs from its power-on values, every receiver in WAIT_IDLE (R165, R167). -/
def execResetRelease (s : State) : Result := .next (if s.resetAsserted then s.powerOn else s)

/-- POWER_UP acts as an assertion and release of RESET# (R166). -/
def execPowerUp (s : State) : Result := .next s.powerOn

end Sys2Proof.Machine
end

