-- ==== Sys2Proof/Machine/Requests.lean ====
section
/-! DEFINITION. The meanings of the rows that are management requests: the end, on the upstream link, of a
checked request frame to station 127 (log 1). -/

namespace Sys2Proof.Machine

/-- The request of a management write. -/
def writeRequest (h : WriteHead) (k : WriteKind) (object : Half) (payload : List Byte) : Request where
  station  := 127
  function := match k with
    | .write => fnWrite
    | .exchange => fnExchange
  tag      := h.tag
  object   := object
  position := h.position
  reqLen   := h.reqLen
  payload  := payload

/-- The request of a command: a WRITE of its command object (R156). -/
def commandRequest (h : WriteHead) (c : CommandObject) (payload : List Byte) : Request :=
  writeRequest h .write c.number payload

/-- The arrival of a request frame, as an event. -/
def requestEvent (q : Request) (s : State) : Result := event (fun s => s.receiveRequest q) s

/-! ### Writes of objects -/

/-- ENTRY_WRITE (R16). -/
def execEntryWrite (h : WriteHead) (k : WriteKind) (n : EntryNo) (p : List Byte) (s : State) : Result :=
  requestEvent (writeRequest h k (entryObject n) p) s

/-- DESCRIPTOR_WRITE (R56). -/
def execDescriptorWrite (h : WriteHead) (k : WriteKind) (n : RecordNo) (p : List Byte) (s : State) : Result :=
  requestEvent (writeRequest h k (descriptorObject n) p) s

/-- RECORD_DATA_WRITE (R60). -/
def execRecordDataWrite (h : WriteHead) (k : WriteKind) (n : RecordNo) (p : List Byte) (s : State) : Result :=
  requestEvent (writeRequest h k (recordDataObject n) p) s

/-- STATION_RECORD_WRITE (R103). -/
def execStationRecordWrite (h : WriteHead) (k : WriteKind) (n : StationNo) (p : List Byte) (s : State) : Result :=
  requestEvent (writeRequest h k (stationObject n) p) s

/-- NODE_WRITE (R129). -/
def execNodeWrite (h : WriteHead) (k : WriteKind) (n : NodeNo) (p : List Byte) (s : State) : Result :=
  requestEvent (writeRequest h k (nodeObject n) p) s

/-- GENERAL_CONFIGURATION_WRITE (R154). -/
def execGeneralConfigurationWrite (h : WriteHead) (k : WriteKind) (p : List Byte) (s : State) : Result :=
  requestEvent (writeRequest h k 0x0002 p) s

/-- SEGMENT_CONFIGURATION_WRITE (R94). -/
def execSegmentConfigurationWrite (h : WriteHead) (k : WriteKind) (x : Seg) (p : List Byte) (s : State) : Result :=
  requestEvent (writeRequest h k (segmentObject x) p) s

/-- NOTICE_CONFIGURATION_WRITE (R135). -/
def execNoticeConfigurationWrite (h : WriteHead) (k : WriteKind) (p : List Byte) (s : State) : Result :=
  requestEvent (writeRequest h k 0x0005 p) s

/-! ### Commands -/

/-- ENTRY_HOLD (R20). -/
def execEntryHold (h : WriteHead) (arg : Byte) (s : State) : Result :=
  requestEvent (commandRequest h .entryHold [arg]) s

/-- ENTRY_RELEASE (R22). -/
def execEntryRelease (h : WriteHead) (arg : Byte) (s : State) : Result :=
  requestEvent (commandRequest h .entryRelease [arg]) s

/-- ENTRY_BAR (R23). -/
def execEntryBar (h : WriteHead) (arg : Byte) (s : State) : Result :=
  requestEvent (commandRequest h .entryBar [arg]) s

/-- ENTRY_UNBAR (R23). -/
def execEntryUnbar (h : WriteHead) (arg : Byte) (s : State) : Result :=
  requestEvent (commandRequest h .entryUnbar [arg]) s

/-- STREAM_REWIND (R65). -/
def execStreamRewind (h : WriteHead) (arg : Byte) (s : State) : Result :=
  requestEvent (commandRequest h .streamRewind [arg]) s

/-- MIRROR_INVALIDATE (R73). -/
def execMirrorInvalidate (h : WriteHead) (arg : Byte) (s : State) : Result :=
  requestEvent (commandRequest h .mirrorInvalidate [arg]) s

/-- SEGMENT_ENABLE (R98). -/
def execSegmentEnable (h : WriteHead) (arg : Byte) (s : State) : Result :=
  requestEvent (commandRequest h .segmentEnable [arg]) s

/-- SEGMENT_DISABLE (R95). -/
def execSegmentDisable (h : WriteHead) (arg : Byte) (s : State) : Result :=
  requestEvent (commandRequest h .segmentDisable [arg]) s

/-- STATION_FORGET (R110). -/
def execStationForget (h : WriteHead) (arg : Byte) (s : State) : Result :=
  requestEvent (commandRequest h .stationForget [arg]) s

/-- NOTICE_ACK (R136). -/
def execNoticeAck (h : WriteHead) (arg : Byte) (s : State) : Result :=
  requestEvent (commandRequest h .noticeAck [arg]) s

/-- NOTICE_DONE (R139). -/
def execNoticeDone (h : WriteHead) (s : State) : Result :=
  requestEvent (commandRequest h .noticeDone []) s

/-- NOTICE_FORCE with the set flag only (R143). -/
def execNoticeForceSet (h : WriteHead) (node : Byte) (s : State) : Result :=
  requestEvent (commandRequest h .noticeForce [node, 1]) s

/-- NOTICE_FORCE with the clear flag only (R143). -/
def execNoticeForceClear (h : WriteHead) (node : Byte) (s : State) : Result :=
  requestEvent (commandRequest h .noticeForce [node, 2]) s

/-- COUNTERS_CLEAR (R160). -/
def execCountersClear (h : WriteHead) (s : State) : Result :=
  requestEvent (commandRequest h .countersClear []) s

/-- RESTART of scope TRAFFIC (R161). -/
def execRestartTraffic (h : WriteHead) (s : State) : Result :=
  requestEvent (commandRequest h .restart [Scope.traffic.code]) s

/-- RESTART of scope FULL (R161). -/
def execRestartFull (h : WriteHead) (s : State) : Result :=
  requestEvent (commandRequest h .restart [Scope.full.code]) s

/-! ### The request of each row -/

/-- The request frame whose arrival a row stands for; none for a row that is no management request (log 1). -/
def requestOfRow : Instr → Option Request
  | .entryWrite h k n p => some (writeRequest h k (entryObject n) p)
  | .descriptorWrite h k n p => some (writeRequest h k (descriptorObject n) p)
  | .recordDataWrite h k n p => some (writeRequest h k (recordDataObject n) p)
  | .stationRecordWrite h k n p => some (writeRequest h k (stationObject n) p)
  | .nodeWrite h k n p => some (writeRequest h k (nodeObject n) p)
  | .generalConfigurationWrite h k p => some (writeRequest h k 0x0002 p)
  | .segmentConfigurationWrite h k x p => some (writeRequest h k (segmentObject x) p)
  | .noticeConfigurationWrite h k p => some (writeRequest h k 0x0005 p)
  | .entryHold h a => some (commandRequest h .entryHold [a])
  | .entryRelease h a => some (commandRequest h .entryRelease [a])
  | .entryBar h a => some (commandRequest h .entryBar [a])
  | .entryUnbar h a => some (commandRequest h .entryUnbar [a])
  | .streamRewind h a => some (commandRequest h .streamRewind [a])
  | .mirrorInvalidate h a => some (commandRequest h .mirrorInvalidate [a])
  | .segmentEnable h a => some (commandRequest h .segmentEnable [a])
  | .segmentDisable h a => some (commandRequest h .segmentDisable [a])
  | .stationForget h a => some (commandRequest h .stationForget [a])
  | .noticeAck h a => some (commandRequest h .noticeAck [a])
  | .noticeDone h => some (commandRequest h .noticeDone [])
  | .noticeForceSet h a => some (commandRequest h .noticeForce [a, 1])
  | .noticeForceClear h a => some (commandRequest h .noticeForce [a, 2])
  | .countersClear h => some (commandRequest h .countersClear [])
  | .restartTraffic h => some (commandRequest h .restart [Scope.traffic.code])
  | .restartFull h => some (commandRequest h .restart [Scope.full.code])
  | .upstreamFrameEnd | .dispatch _ | .segmentFrameTxEnd _ | .segmentFrameRxEnd _ | .responseTimerExpiry _
  | .gapEnd _ | .probeTimerExpiry _ | .mirrorAgeTick | .startOfTransmission | .responseFrameEnd
  | .clashFrameEnd | .noticeFrameEnd | .spacingEnd | .repeatTimerExpiry | .resetAssert _ | .resetRelease
  | .powerUp | .receiverIdleGap _ | .byteArrival _ _ => none

end Sys2Proof.Machine
end

