-- ==== Sys2Proof/Machine/Dispatch.lean ====
section
/-! DEFINITION. One arm per command, each a direct call of its meaning. -/

namespace Sys2Proof.Machine

def exec (i : Instr) (s : State) : Host.Outcome State Fault Refusal :=
  match i with
  | .upstreamFrameEnd => Sys2Proof.Machine.execUpstreamFrameEnd s
  | .entryWrite h k n p => Sys2Proof.Machine.execEntryWrite h k n p s
  | .descriptorWrite h k n p => Sys2Proof.Machine.execDescriptorWrite h k n p s
  | .recordDataWrite h k n p => Sys2Proof.Machine.execRecordDataWrite h k n p s
  | .stationRecordWrite h k n p => Sys2Proof.Machine.execStationRecordWrite h k n p s
  | .nodeWrite h k n p => Sys2Proof.Machine.execNodeWrite h k n p s
  | .generalConfigurationWrite h k p => Sys2Proof.Machine.execGeneralConfigurationWrite h k p s
  | .segmentConfigurationWrite h k x p => Sys2Proof.Machine.execSegmentConfigurationWrite h k x p s
  | .noticeConfigurationWrite h k p => Sys2Proof.Machine.execNoticeConfigurationWrite h k p s
  | .entryHold h a => Sys2Proof.Machine.execEntryHold h a s
  | .entryRelease h a => Sys2Proof.Machine.execEntryRelease h a s
  | .entryBar h a => Sys2Proof.Machine.execEntryBar h a s
  | .entryUnbar h a => Sys2Proof.Machine.execEntryUnbar h a s
  | .streamRewind h a => Sys2Proof.Machine.execStreamRewind h a s
  | .mirrorInvalidate h a => Sys2Proof.Machine.execMirrorInvalidate h a s
  | .segmentEnable h a => Sys2Proof.Machine.execSegmentEnable h a s
  | .segmentDisable h a => Sys2Proof.Machine.execSegmentDisable h a s
  | .stationForget h a => Sys2Proof.Machine.execStationForget h a s
  | .noticeAck h a => Sys2Proof.Machine.execNoticeAck h a s
  | .noticeDone h => Sys2Proof.Machine.execNoticeDone h s
  | .noticeForceSet h a => Sys2Proof.Machine.execNoticeForceSet h a s
  | .noticeForceClear h a => Sys2Proof.Machine.execNoticeForceClear h a s
  | .countersClear h => Sys2Proof.Machine.execCountersClear h s
  | .restartTraffic h => Sys2Proof.Machine.execRestartTraffic h s
  | .restartFull h => Sys2Proof.Machine.execRestartFull h s
  | .dispatch x => Sys2Proof.Machine.execDispatch x s
  | .segmentFrameTxEnd x => Sys2Proof.Machine.execSegmentFrameTxEnd x s
  | .segmentFrameRxEnd x => Sys2Proof.Machine.execSegmentFrameRxEnd x s
  | .responseTimerExpiry x => Sys2Proof.Machine.execResponseTimerExpiry x s
  | .gapEnd x => Sys2Proof.Machine.execGapEnd x s
  | .probeTimerExpiry x => Sys2Proof.Machine.execProbeTimerExpiry x s
  | .mirrorAgeTick => Sys2Proof.Machine.execMirrorAgeTick s
  | .startOfTransmission => Sys2Proof.Machine.execStartOfTransmission s
  | .responseFrameEnd => Sys2Proof.Machine.execResponseFrameEnd s
  | .clashFrameEnd => Sys2Proof.Machine.execClashFrameEnd s
  | .noticeFrameEnd => Sys2Proof.Machine.execNoticeFrameEnd s
  | .spacingEnd => Sys2Proof.Machine.execSpacingEnd s
  | .repeatTimerExpiry => Sys2Proof.Machine.execRepeatTimerExpiry s
  | .resetAssert w => Sys2Proof.Machine.execResetAssert w s
  | .resetRelease => Sys2Proof.Machine.execResetRelease s
  | .powerUp => Sys2Proof.Machine.execPowerUp s
  | .receiverIdleGap l => Sys2Proof.Machine.execReceiverIdleGap l s
  | .byteArrival l b => Sys2Proof.Machine.execByteArrival l b s

end Sys2Proof.Machine
end

