-- ==== Sys2Proof/Safety.lean ====
section
/-! DEFINITION. The vocabulary of the statements: when a request reaches the block that decides it, what an
answered request leaves in the table, what an event leaves alone, and the laws that every step keeps. -/

namespace Sys2Proof.Machine

/-! ### When a request is taken -/

/-- The upstream receiver takes frames: RESET# is released and the line has been seen idle (R165, R167). -/
abbrev State.listens (s : State) : Prop := s.resetAsserted = false ∧ s.upRx.state ≠ .waitIdle

/-- A request of a tag gets its slot: no restart is pending and the slot is FREE (R34, R35). -/
abbrev State.admits (s : State) (t : Tag) : Prop := s.mga.restart = none ∧ (s.slot t).state = .free

/-- A request of a tag to station 127 reaches the management agent with management buffer `k` (R36). -/
abbrev State.reachesAgent (s : State) (t : Tag) (k : Fin 4) : Prop :=
  s.listens ∧ s.admits t ∧ s.freeMgmtBuf = some k

/-- The frame being received on the upstream link, ending now, is the checked request frame `q` (R172). -/
abbrev State.receives (s : State) (q : Request) : Prop :=
  s.resetAsserted = false ∧ s.upRx.state = .receiving ∧ checkRequest s.upRx.bytes s.upRx.count = .ok q

/-- A request to a station 0 to 126 is received, gets its slot and passes validation (R34, R35, R37). -/
abbrev State.reachesLookup (s : State) (q : Request) : Prop :=
  s.receives q ∧ s.admits q.tag ∧ q.station ≠ 127 ∧ validation q = none

/-- A request reaches the answer of entry `e`: it is the first match and no flag of it stops the request (R5,
R9). -/
abbrev State.reachesAction (s : State) (q : Request) (e : EntryNo) : Prop :=
  s.reachesLookup q ∧ s.lookup q = some e ∧ (s.entry e).hold = false ∧ (s.entry e).barred = false

/-! ### What a taken request leaves -/

/-- The receipt of a checked frame: it is counted and the receiver is READY; the model's own fields and the
RESET# pin are not touched (R159, R167). -/
abbrev State.received (s u : State) : Prop :=
  u.counters = { s.counters with rxFrames := satInc s.counters.rxFrames } ∧ u.upRx = Receiver.idle
    ∧ u.resetAsserted = s.resetAsserted ∧ u.freeIndex = s.freeIndex ∧ u.pending = s.pending

/-- A slot with its response determined (R29, R30). -/
def Slot.answered (sl : Slot) (st : Status) (rs : Reason) (src : PayloadSource) : Slot :=
  { sl with state := .returning, status := some st, reason := some rs, source := some src }

/-- The slot of a management request with its management buffer (R27, R36). -/
def mgmtSlot (q : Request) (k : Fin 4) : Slot := { occupiedSlot q .management none with mgmtBuf := some k }

/-- Every slot but that of one tag is as it was. -/
abbrev State.otherSlots (s u : State) (t : Tag) : Prop := ∀ v, v ≠ t → u.slot v = s.slot v

/-- No buffer's contents and no clash entry changes. -/
abbrev State.sameBuffers (s u : State) : Prop :=
  u.ort.frameBuffers = s.ort.frameBuffers ∧ u.ort.mgmtBuffers = s.ort.mgmtBuffers
    ∧ u.ort.clashQueue = s.ort.clashQueue

/-- These slots join the tail of the return queue, and nothing else of the return path changes (R113). -/
abbrev State.returns (s u : State) (ts : List Tag) : Prop :=
  u.rtp = { s.rtp with queue := s.rtp.queue ++ ts }

/-- A request is answered at once, and its answer is all that changes in the request table and the return
path (R29, R33, R113). -/
abbrev State.answers (s u : State) (t : Tag) (sl : Slot) : Prop :=
  s.received u ∧ u.slot t = sl ∧ s.otherSlots u t ∧ s.sameBuffers u ∧ s.returns u [t]

/-! What a statement leaves alone: every block's tables but those it names. -/

/-- The station table, the notice unit and the agent are as they were. -/
abbrev State.sameRest (s u : State) : Prop := u.stations = s.stations ∧ u.ntu = s.ntu ∧ u.mga = s.mga

/-- Nothing but the steering table changes. -/
abbrev State.sameButEntries (s u : State) : Prop :=
  u.rst = s.rst ∧ u.segA = s.segA ∧ u.segB = s.segB ∧ s.sameRest u

/-- Every entry but one is as it was. -/
abbrev State.otherEntries (s u : State) (e : EntryNo) : Prop := ∀ n, n ≠ e → u.entry n = s.entry n

/-- Nothing but the reply store changes. -/
abbrev State.sameButStore (s u : State) : Prop :=
  u.entries = s.entries ∧ u.segA = s.segA ∧ u.segB = s.segB ∧ s.sameRest u

/-- Every descriptor but one is as it was. -/
abbrev State.otherRecords (s u : State) (r : RecordNo) : Prop := ∀ n, n ≠ r → u.record n = s.record n

/-- Nothing but one segment controller changes. -/
abbrev State.sameButSegment (s u : State) (x : Seg) : Prop :=
  u.entries = s.entries ∧ u.rst = s.rst ∧ (∀ y, y ≠ x → u.seg y = s.seg y) ∧ s.sameRest u

/-- Nothing but the station table changes. -/
abbrev State.sameButStations (s u : State) : Prop :=
  u.entries = s.entries ∧ u.rst = s.rst ∧ u.segA = s.segA ∧ u.segB = s.segB ∧ u.ntu = s.ntu ∧ u.mga = s.mga

/-- Every station record but one is as it was. -/
abbrev State.otherStations (s u : State) (i : StationNo) : Prop := ∀ n, n ≠ i → u.station n = s.station n

/-- Nothing but the notice unit changes. -/
abbrev State.sameButNotices (s u : State) : Prop :=
  u.entries = s.entries ∧ u.rst = s.rst ∧ u.segA = s.segA ∧ u.segB = s.segB ∧ u.stations = s.stations
    ∧ u.mga = s.mga

/-- Nothing but the agent's own state changes. -/
abbrev State.sameButAgent (s u : State) : Prop :=
  u.entries = s.entries ∧ u.rst = s.rst ∧ u.segA = s.segA ∧ u.segB = s.segB ∧ u.stations = s.stations
    ∧ u.ntu = s.ntu

/-- No table of any block changes. -/
abbrev State.sameTables (s u : State) : Prop := u.entries = s.entries ∧ s.sameButEntries u

/-- The slots other than that of a tag, when the claim of a record is cleared: its holder loses the flag
(R70). -/
abbrev State.claimDropped (s u : State) (r : RecordNo) (t : Tag) : Prop :=
  ∀ v, v ≠ t → u.slot v
    = if (s.record r).claim = some v then { s.slot v with fillClaim := false } else s.slot v

/-! What a slot's leaving of the segment side does. -/

/-- The upstream receiver, the RESET# pin and the model's own fields are as they were. -/
abbrev State.sameLink (s u : State) : Prop :=
  u.upRx = s.upRx ∧ u.resetAsserted = s.resetAsserted ∧ u.freeIndex = s.freeIndex ∧ u.pending = s.pending

/-- The record, if any, whose fill claim a slot holds: the slot's flag and the records' claims agree (R70). -/
abbrev State.claims (s : State) (t : Tag) (c : Option RecordNo) : Prop :=
  (s.slot t).fillClaim = c.isSome ∧ ∀ n, (s.record n).claim = some t ↔ c = some n

/-- The waiting ENTRY_HOLD slot, if any, whose quiesce the departure of a slot ends (R12, R21). -/
def State.quiesced (s : State) (t : Tag) : Option Tag :=
  match (s.slot t).attachedEntry with
  | none => none
  | some e => if (s.entry e).inFlight ≤ 1 then (s.entry e).holder else none

/-- A slot that may leave the segment side in a step: it is not WAITING, the slot of a quiesce that its
departure ends is, and an attached slot names its entry (R11, R20). -/
abbrev State.mayDepart (s : State) (t : Tag) : Prop :=
  (s.slot t).state ≠ .waiting ∧ (∀ h, s.quiesced t = some h → (s.slot h).state = .waiting)
    ∧ ((s.slot t).attached = true → (s.slot t).entry.isSome = true)

/-- A slot leaves the segment side and is answered: its entry, when it is attached, counts one less in flight and
takes HOLD as `held` says; a quiesce that ends is answered DONE ahead of it; its claim is dropped (R12, R21, R72,
R113). -/
abbrev State.departs (s u : State) (t : Tag) (held : Entry → Bool) (st : Status) (rs : Reason)
    (src : PayloadSource) : Prop :=
  (∀ e, u.entry e = if (s.slot t).attachedEntry = some e then
      { s.entry e with
        inFlight := (s.entry e).inFlight - 1
        hold := (s.entry e).hold || held (s.entry e)
        holder := if (s.entry e).inFlight ≤ 1 then none else (s.entry e).holder }
      else s.entry e)
    ∧ u.slot t = { s.slot t with attached := false, fillClaim := false }.answered st rs src
    ∧ (∀ v, v ≠ t → u.slot v
        = if s.quiesced t = some v then (s.slot v).answered .done .none .none else s.slot v)
    ∧ s.returns u ((s.quiesced t).toList ++ [t])
    ∧ u.mga = { s.mga with
        pendingRecords := s.mga.pendingRecords.filter (fun r => s.quiesced t ≠ some r.tag) }

/-- Whether an outcome's status sets HOLD on an entry (R14 steps 2 and 3). -/
abbrev Entry.heldBy (st : Status) (e : Entry) : Bool :=
  (st = .done && e.holdAfterDone) || (st = .short && e.holdOnShort)

/-- The record whose fill an outcome asks for: the claimed one, at a DONE outcome of a READ or WRITE (R71). -/
def State.filledRecord (s : State) (t : Tag) (c : Option RecordNo) (st : Status) : Option RecordNo :=
  if st = .done ∧ ((s.slot t).function = 1 ∨ (s.slot t).function = 2) then c else none

/-- What an outcome does to the records: a claim is cleared; a fill of a record that is not pinned writes its
region from the slot's frame buffer, makes it VALID and is counted, and one of a pinned record is counted as
skipped (R71, R72). -/
abbrev State.settles (s u : State) (t : Tag) (c : Option RecordNo) (st : Status) : Prop :=
  (∀ r, u.record r = if c = some r then
      (if s.filledRecord t c st = some r ∧ (s.record r).pins = 0 then
        { s.record r with mirrorState := .valid, age := 0, claim := none }
      else { s.record r with claim := none })
    else s.record r)
    ∧ (∀ r, s.filledRecord t c st = some r → (s.record r).pins = 0 →
        (∀ a, Memory.read u.rst.store a
          = if (s.record r).base ≤ a ∧ a < (s.record r).base + (s.record r).length then
              byteAt (u.slotBuffer t) (a - (s.record r).base) else Memory.read s.rst.store a)
        ∧ u.counters = { s.counters with mirrorFills := satInc s.counters.mirrorFills })
    ∧ (∀ r, s.filledRecord t c st = some r → (s.record r).pins ≠ 0 →
        u.rst.store = s.rst.store
        ∧ u.counters = { s.counters with mirrorFillSkips := satInc s.counters.mirrorFillSkips })
    ∧ (s.filledRecord t c st = none → u.rst.store = s.rst.store ∧ u.counters = s.counters)

/-- What an outcome's fill, if it asks for one, needs of the state: the store and the record's region are in
order, and the slot's frame buffer holds the region's bytes, which `n` of a response and the rest before it make up
(R47, R53). -/
abbrev State.mayFill (s : State) (t : Tag) (c : Option RecordNo) (st : Status) (n : Nat) : Prop :=
  Memory.wf s.rst.store = true ∧ ∀ r, s.filledRecord t c st = some r →
    (s.record r).base + (s.record r).length ≤ Config.storeSize
      ∧ (s.record r).length ≤ max n (s.slotBuffer t).length

/-- The notice unit after an outcome: ENTRY_HELD when HOLD is newly set (R14 step 4). -/
abbrev State.heldNotice (s : State) (t : Tag) (st : Status) (n : NoticeUnit) : NoticeUnit :=
  match (s.slot t).attachedEntry with
  | none => n
  | some e => if (s.entry e).heldBy st = true ∧ (s.entry e).hold = false then n.raise nodeEntryHeld (halfNat e) else n

/-- A management request is answered DONE with no payload (R151, R156). -/
abbrev State.agentDone (s u : State) (q : Request) (k : Fin 4) : Prop :=
  s.answers u q.tag ((mgmtSlot q k).answered .done .none .none)

/-- The slot of an answered READ or EXCHANGE whose value, truncated, is `bytes` (R150). -/
def valueSlot (q : Request) (k : Fin 4) (bytes : List Byte) : Slot :=
  (mgmtSlot q k).answered .done .none (if bytes = [] then .none else .management bytes.length)

/-- A value is captured in management buffer `k`, unless it is empty; the other buffers are as they were (R48,
R150). -/
abbrev State.captured (s u : State) (k : Fin 4) (bytes : List Byte) : Prop :=
  (∀ j, u.ort.mgmtBuffers[j] = if j = k ∧ bytes ≠ [] then bytes else s.ort.mgmtBuffers[j])
    ∧ u.ort.frameBuffers = s.ort.frameBuffers ∧ u.ort.clashQueue = s.ort.clashQueue

/-- What an accepted write gives its slot and buffer: DONE for a WRITE, DONE with the object's value for an
EXCHANGE (R151, R152). -/
abbrev State.writeAnswered (s u : State) (q : Request) (k : Fin 4) (value : List Byte) : Prop :=
  s.received u
    ∧ u.slot q.tag = valueSlot q k (if q.function = fnExchange then value.take q.reqLen.toNat else [])
    ∧ s.captured u k (if q.function = fnExchange then value.take q.reqLen.toNat else [])

/-- An accepted write that answers no other slot. -/
abbrev State.writeDone (s u : State) (q : Request) (k : Fin 4) (value : List Byte) : Prop :=
  s.writeAnswered u q k value ∧ s.otherSlots u q.tag ∧ s.returns u [q.tag]

/-- The check of R148 that a write of either function passes: an EXCHANGE asks for at most 240 bytes. -/
abbrev goodLength (k : WriteKind) (h : WriteHead) : Prop := k = .exchange → h.reqLen.toNat ≤ 240

/-- A request is refused by the agent: its slot is answered, MGMT_REFUSED raised with the object as received,
and nothing else changes (R158). -/
abbrev State.agentRefuses (s u : State) (q : Request) (k : Fin 4) (st : Status) (rs : Reason) : Prop :=
  s.answers u q.tag ((mgmtSlot q k).answered st rs .none)
    ∧ s.sameButNotices u ∧ u.ntu = s.ntu.raise nodeMgmtRefused q.object

/-! ### Laws that every step keeps -/

/-- The reply store's bytes are in canonical form (R53). -/
abbrev State.storeLaw (s : State) : Prop := Memory.wf s.rst.store = true

/-- Regions lie within the store and are pairwise disjoint (R53). -/
abbrev State.regionLaw (s : State) : Prop :=
  (∀ r, (s.record r).base + (s.record r).size ≤ Config.storeSize)
    ∧ ∀ a b, a ≠ b → regionsOverlap (s.record a) (s.record b) = false

/-- The kept fields of a record (R54, R66, R70): cursor plus remaining is total for a STREAM record; kept
fields of other kinds hold their power-on values; an INVALID record has age 0, and a record is INVALID while a
claim is held. -/
abbrev Record.law (rc : Record) : Prop :=
  (rc.kind = .stream → rc.cursor + rc.remaining = rc.total)
    ∧ (rc.kind ≠ .stream → rc.cursor = 0 ∧ rc.remaining = 0)
    ∧ (rc.kind ≠ .mirror → rc.mirrorState = .invalid ∧ rc.claim = none)
    ∧ (rc.mirrorState = .invalid → rc.age = 0)
    ∧ (rc.claim.isSome = true → rc.mirrorState = .invalid)

/-- The record law of every record, and the references: a valid entry of action ANSWER, STREAM or MIRROR names a
record of kind FIXED, STREAM or MIRROR (R57). -/
abbrev State.recordLaw (s : State) : Prop :=
  (∀ r, (s.record r).law)
    ∧ ∀ e r, (s.entry e).valid = true → (s.entry e).action.record? = some r →
        (s.record r).kind = (s.entry e).action.kind

/-- The hit phase is 0 under interval 0 and below the interval otherwise (R8). -/
abbrev State.phaseLaw (s : State) : Prop :=
  ∀ e, ((s.entry e).interval = 0 → (s.entry e).phase = 0)
    ∧ ((s.entry e).interval ≠ 0 → (s.entry e).phase.toNat < (s.entry e).interval.toNat)

/-- A PRESENT or UNKNOWN station has failure count 0 and a SUSPECT one a count above 0 (R102); and every
configuration field that has a least value 1 is not 0 (R94, R108, R135). -/
abbrev State.presenceLaw (s : State) : Prop :=
  (∀ i, ((s.station i).presence = .present ∨ (s.station i).presence = .unknown → (s.station i).failures = 0)
      ∧ ((s.station i).presence = .suspect → (s.station i).failures ≠ 0))
    ∧ (∀ x, (s.seg x).respTimeout ≠ 0 ∧ (s.seg x).probeInterval ≠ 0)
    ∧ s.ntu.repeatInterval ≠ 0 ∧ s.mga.absenceThreshold ≠ 0

/-- The notice unit between events (R127, R130, R131, R139): the offer is the winner of the arbitration; a node
is pending exactly when its count is above 0; a sent count above 0 is that of a SENT offer, and not above the
node's count; a frame is due and the timer runs only for an offer, the timer only for a SENT one; the stack
holds at most four strictly rising levels, and the floor is its top or the base floor. -/
abbrev NoticeUnit.law (n : NoticeUnit) (base : Level) : Prop :=
  n.offer.map Offer.node = n.winner
    ∧ (∀ k, (n.node k).pending = decide ((n.node k).count ≠ 0))
    ∧ (∀ k, (n.node k).sent ≠ 0 →
        n.offer = some { node := k, state := .sent } ∧ (n.node k).sent.toNat ≤ (n.node k).count.toNat)
    ∧ (n.due = true → n.offer.isSome = true)
    ∧ (n.repeatTimer.isSome = true → n.offer.map Offer.state = some .sent)
    ∧ n.stack.length ≤ Config.stackDepth ∧ n.stack.Pairwise (fun a b => b < a)
    ∧ n.floor = n.stack.headD base

/-- The law of the notice unit in a state. -/
abbrev State.noticeLaw (s : State) : Prop := s.ntu.law s.mga.baseFloor

/-- A slot is in the one place that its state names (R30, R77, R113): QUEUED in the queue of one segment,
ON_WIRE carried by one engine, WAITING in a pending command record, RETURNING in the return queue, SENDING
carried by the transmitter, and FREE in none of them. -/
abbrev State.placed (s : State) (t : Tag) : Prop :=
  (t ∈ s.segA.queue ∨ t ∈ s.segB.queue ↔ (s.slot t).state = .queued)
    ∧ (s.segA.carried = .slot t ∨ s.segB.carried = .slot t ↔ (s.slot t).state = .onWire)
    ∧ (t ∈ s.mga.pendingRecords.map PendingRecord.tag ↔ (s.slot t).state = .waiting)
    ∧ (t ∈ s.rtp.queue ↔ (s.slot t).state = .returning)
    ∧ (s.rtp.carries = .slot t ↔ (s.slot t).state = .sending)

/-- A waiting command's record and the block that will end its wait name each other (R20, R95, R147, R157). -/
abbrev State.waitsNamed (s : State) : Prop :=
  (∀ e t, (s.entry e).holder = some t ↔ { tag := t, command := .entryHold e } ∈ s.mga.pendingRecords)
    ∧ (∀ x t, (s.seg x).waitingDisable = some t ↔
        { tag := t, command := .segmentDisable x } ∈ s.mga.pendingRecords)
    ∧ (s.mga.pendingRecords.map PendingRecord.tag).Nodup

/-- Whether a slot's payload is read from a record's region (R58). -/
def Slot.reads (sl : Slot) (r : RecordNo) : Bool :=
  match sl.source with
  | some (.record n _ _) => n = r
  | some .none => false
  | some (.buffer _) => false
  | some (.management _) => false
  | none => false

/-- Every slot is in one place once, and every wait is known to the block that ends it; a segment is DRAINING
exactly while a disable waits, and holds no queue, no due probe and no probe timer unless it is ENABLED; an
engine carries nothing when IDLE or on a DISABLED segment and something when SENDING or AWAITING; the
transmitter carries something exactly when it is TRANSMITTING; no dispatch and no start of transmission is left to
make (R30, R76 to R79, R91, R95, R113 to R115). -/
abbrev State.placeLaw (s : State) : Prop :=
  (∀ t, s.placed t) ∧ s.waitsNamed
    ∧ (s.segA.queue ++ s.segB.queue).Nodup ∧ s.rtp.queue.Nodup
    ∧ (∀ t, s.segA.carried = .slot t → s.segB.carried ≠ .slot t)
    ∧ (∀ x, (s.seg x).waitingDisable.isSome = true ↔ (s.seg x).segState = .draining)
    ∧ (∀ x, (s.seg x).segState ≠ .enabled →
        (s.seg x).queue = [] ∧ (s.seg x).probeDue = false ∧ (s.seg x).probeTimer = none)
    ∧ (∀ x, (s.seg x).segState = .disabled → (s.seg x).carried = .nothing)
    ∧ (∀ x, (s.seg x).engine = .idle → (s.seg x).carried = .nothing)
    ∧ (∀ x, (s.seg x).engine = .sending ∨ (s.seg x).engine = .awaiting → (s.seg x).carried ≠ .nothing)
    ∧ (s.rtp.carries = .nothing ↔ s.rtp.txState ≠ .transmitting)
    ∧ (∀ x, (s.seg x).mayDispatch = false)
    ∧ (s.rtp.txState = .idle → s.ntu.dueNode = none ∧ s.ort.clashQueue = [] ∧ s.rtp.queue = [])

/-- What the slots hold is accounted for (R11, R47, R48, R51, R58): an entry's in-flight count is the number of
slots attached to it, and they are on the segment side; a record's pin count is the number of slots whose
payload is read from it, and they are in the return queue or the transmitter; a buffer is held by one slot; a
FREE slot holds nothing. -/
abbrev State.accountLaw (s : State) : Prop :=
  (∀ e, (s.entry e).inFlight
      = (indexes 32).countP (fun t => (s.slot t).attached && decide ((s.slot t).entry = some e)))
    ∧ (∀ r, (s.record r).pins = (indexes 32).countP (fun t => (s.slot t).reads r))
    ∧ ∀ t,
      ((s.slot t).attached = true →
          (s.slot t).entry.isSome = true ∧ ((s.slot t).state = .queued ∨ (s.slot t).state = .onWire))
      ∧ ((s.slot t).source.isSome = true → (s.slot t).state = .returning ∨ (s.slot t).state = .sending)
      ∧ ((s.slot t).state = .free → s.slot t = {})
      ∧ (∀ v k, v ≠ t → (s.slot t).frameBuf = some k → (s.slot v).frameBuf ≠ some k)
      ∧ ∀ v k, v ≠ t → (s.slot t).mgmtBuf = some k → (s.slot v).mgmtBuf ≠ some k

/-- What a slot's and an engine's state asks of the rest (R45, R76, R85, R114, R117): a QUEUED or ON_WIRE slot holds a
frame buffer and is for a station or the broadcast; a RETURNING or SENDING slot has its response, and the buffer
that its payload source names; an AWAITING engine's response timer runs; an engine that carries a slot through the
gap knows how its last attempt failed. -/
abbrev State.holdLaw (s : State) : Prop :=
  (∀ t, (s.slot t).state = .queued ∨ (s.slot t).state = .onWire →
      (s.slot t).frameBuf.isSome = true ∧ (s.slot t).station ≠ 127)
    ∧ (∀ t, (s.slot t).state = .returning ∨ (s.slot t).state = .sending →
        (s.slot t).status.isSome = true ∧ (s.slot t).reason.isSome = true ∧ (s.slot t).source.isSome = true
        ∧ (∀ n, (s.slot t).source = some (.buffer n) → (s.slot t).frameBuf.isSome = true)
        ∧ (∀ n, (s.slot t).source = some (.management n) → (s.slot t).mgmtBuf.isSome = true))
    ∧ (∀ x, (s.seg x).engine = .awaiting → (s.seg x).responseTimer.isSome = true)
    ∧ (∀ x t, (s.seg x).engine = .gap → (s.seg x).carried = .slot t → (s.seg x).failure.isSome = true)

/-- The fill claims (R69 to R71): a slot's flag and the records' claims name each other, one record a slot, and the
slot is on the segment side with a READ of the record's length or a WRITE whose payload of that length stands in its
frame buffer. -/
abbrev State.claimLaw (s : State) : Prop :=
  (∀ t, (s.slot t).fillClaim = true ↔ ∃ r, (s.record r).claim = some t)
    ∧ (∀ a b t, (s.record a).claim = some t → (s.record b).claim = some t → a = b)
    ∧ ∀ r t, (s.record r).claim = some t →
        ((s.slot t).state = .queued ∨ (s.slot t).state = .onWire)
        ∧ ((s.slot t).function = 1 ∧ (s.slot t).reqLen.toNat = (s.record r).length
          ∨ (s.slot t).function = 2 ∧ (s.record r).length ≤ (s.slotBuffer t).length)

end Sys2Proof.Machine
end

