-- ==== Sys2Proof/Certificates/Slice0/Obligations.lean ====
section
/-! DEFINITION. The statements for the provers, in the vocabulary of Sys2Proof/Safety.lean.  A management row's
statement is about the arrival of its request frame (log 1); `u.start` is the event's state `u` with the start of
transmission that takes place at the event's end (R115; log 2). -/

section

open Sys2Proof Sys2Proof.Machine

/-! ### Writes of management objects -/

/-- R16, R18: an accepted entry write takes the written fields with every count 0, detaches the entry's slots
and ends a pending quiesce with DONE ahead of its own answer. A management row is the arrival of its request
frame (the model's choice, log 1). -/
def Obligations.EntryWriteReplacesEntry : Prop :=
  ∀ (s : State) (h : WriteHead) (w : WriteKind) (n : EntryNo) (p : List Byte) (k : Fin 4) (new : Entry),
    s.reachesAgent h.tag k → h.position = 0 → goodLength w h → p.length = 12 → entryOf p = some new →
    (new.valid = true → s.entryConsistent new = true) →
    (∀ t, (s.entry n).holder = some t → (s.slot t).state = .waiting) →
    ∃ u, exec (.entryWrite h w n p) s = .next u.start
      ∧ s.writeAnswered u (writeRequest h w (entryObject n) p) k (entryBytes (u.entry n))
      ∧ u.entry n = new ∧ new.hits = 0 ∧ new.phase = 0 ∧ new.inFlight = 0 ∧ new.holder = none
      ∧ s.otherEntries u n
      ∧ (∀ t, t ≠ h.tag → (s.entry n).holder ≠ some t → u.slot t
          = if (s.slot t).entry = some n then { s.slot t with attached := false } else s.slot t)
      ∧ (∀ t, (s.entry n).holder = some t → u.slot t
          = (if (s.slot t).entry = some n then { s.slot t with attached := false } else s.slot t).answered
              .done .none .none)
      ∧ s.returns u ((s.entry n).holder.toList ++ [h.tag])
      ∧ u.mga = { s.mga with
          pendingRecords := s.mga.pendingRecords.filter (fun r => (s.entry n).holder ≠ some r.tag) }
      ∧ u.rst = s.rst ∧ u.segA = s.segA ∧ u.segB = s.segB ∧ u.stations = s.stations ∧ u.ntu = s.ntu

/-- R56: an accepted descriptor write takes the written fields, rewinds the stream, invalidates the mirror
and clears the claim; the store bytes are not changed. A management row is the arrival of its request frame
(the model's choice, log 1). -/
def Obligations.DescriptorWriteReplacesRecord : Prop :=
  ∀ (s : State) (h : WriteHead) (w : WriteKind) (n : RecordNo) (p : List Byte) (k : Fin 4) (new : Record),
    s.reachesAgent h.tag k → h.position = 0 → goodLength w h → p.length = 8 → descriptorOf p = some new →
    new.base + new.size ≤ Config.storeSize → s.overlapsOther n new = false → (s.record n).pins = 0 →
    (s.referenced n = true → new.kind = (s.record n).kind ∧ new.kind ≠ .none) →
    ∃ u, exec (.descriptorWrite h w n p) s = .next u.start
      ∧ s.writeAnswered u (writeRequest h w (descriptorObject n) p) k (recordBytes (u.record n))
      ∧ s.returns u [h.tag] ∧ s.claimDropped u n h.tag
      ∧ u.record n = new ∧ new.cursor = 0 ∧ new.remaining = new.total ∧ new.mirrorState = .invalid ∧ new.age = 0
      ∧ new.claim = none ∧ new.pins = 0
      ∧ s.otherRecords u n ∧ u.rst.store = s.rst.store ∧ s.sameButStore u

/-- R60: an accepted record data write places its payload at base plus position and nowhere else; a MIRROR
record is VALID after a write of the whole region, INVALID after any other, and its claim is cleared. A
management row is the arrival of its request frame (the model's choice, log 1). -/
def Obligations.RecordDataWriteStoresItsBytes : Prop :=
  ∀ (s : State) (h : WriteHead) (w : WriteKind) (n : RecordNo) (p : List Byte) (k : Fin 4),
    s.reachesAgent h.tag k → goodLength w h → p.length ≤ 240 → s.storeLaw →
    (s.record n).base + (s.record n).size ≤ Config.storeSize → (s.record n).kind ≠ .none → p ≠ [] →
    h.position.toNat + p.length ≤ (s.record n).size → (s.record n).pins = 0 →
    ∃ u, exec (.recordDataWrite h w n p) s = .next u.start
      ∧ s.writeAnswered u (writeRequest h w (recordDataObject n) p) k
          (Memory.readRun u.rst.store ((s.record n).base + h.position.toNat)
            ((s.record n).size - h.position.toNat))
      ∧ s.returns u [h.tag]
      ∧ (∀ a, Memory.read u.rst.store a
          = if (s.record n).base + h.position.toNat ≤ a ∧ a < (s.record n).base + h.position.toNat + p.length
            then byteAt p (a - ((s.record n).base + h.position.toNat)) else Memory.read s.rst.store a)
      ∧ u.record n = (if (s.record n).kind = .mirror then
          { s.record n with
            mirrorState := if h.position = 0 ∧ p.length = (s.record n).length then .valid else .invalid
            age := 0, claim := none }
          else s.record n)
      ∧ ((s.record n).kind = .mirror → s.claimDropped u n h.tag)
      ∧ ((s.record n).kind ≠ .mirror → s.otherSlots u h.tag)
      ∧ s.otherRecords u n ∧ s.sameButStore u

/-- R103, R110: an accepted station record write sets the home segment, UNKNOWN and failure count 0, and
raises nothing; STATION_FORGET of a station 1 to 126 makes it UNKNOWN with failure count 0 and keeps its home
segment. A management row is the arrival of its request frame (the model's choice, log 1). -/
def Obligations.StationWriteAndForgetResetBelief : Prop :=
  ∀ (s : State) (h : WriteHead) (k : Fin 4) (i : StationNo),
    s.reachesAgent h.tag k → h.position = 0 →
    (∀ (w : WriteKind) (home : Option Seg), goodLength w h →
      ∃ u, exec (.stationRecordWrite h w i [homeCode home]) s = .next u.start
        ∧ s.writeDone u (writeRequest h w (stationObject i) [homeCode home]) k (stationBytes (u.station i))
        ∧ u.station i = { home := home, presence := .unknown, failures := 0 }
        ∧ s.otherStations u i ∧ s.sameButStations u)
    ∧ ∃ u, exec (.stationForget h (byteOf (stationOf i))) s = .next u.start
      ∧ s.agentDone u (commandRequest h .stationForget [byteOf (stationOf i)]) k
      ∧ u.station i = { home := (s.station i).home, presence := .unknown, failures := 0 }
      ∧ s.otherStations u i ∧ s.sameButStations u

/-- R129: an accepted node write sets level and enabled, keeps the node's other fields, and the unit
arbitrates. A management row is the arrival of its request frame (the model's choice, log 1). -/
def Obligations.NodeWriteSetsLevelAndArbitrates : Prop :=
  ∀ (s : State) (h : WriteHead) (w : WriteKind) (n : NodeNo) (level : Level) (on : Bool) (k : Fin 4),
    s.reachesAgent h.tag k → h.position = 0 → goodLength w h →
    ∃ u, exec (.nodeWrite h w n [byteOf level, boolCode on]) s = .next u.start
      ∧ s.writeDone u (writeRequest h w (nodeObject n) [byteOf level, boolCode on]) k (nodeBytes (u.node n))
      ∧ u.ntu = (s.ntu.updNode n (fun nd => { nd with level := level, enabled := on })).arbitrate
      ∧ s.sameButNotices u

/-- R154, R140, R94 and R135: an accepted general configuration write sets all three fields, moves the floor
while the stack is empty and arbitrates; one of a segment configuration sets its three fields and leaves
segment state, engine, queue and timers; one of the notice configuration sets the repeat interval without
arbitration. A management row is the arrival of its request frame (the model's choice, log 1). -/
def Obligations.ConfigurationWritesSetTheirFields : Prop :=
  ∀ (s : State) (h : WriteHead) (w : WriteKind) (k : Fin 4),
    s.reachesAgent h.tag k → h.position = 0 → goodLength w h →
    (∀ (miss : Fallback) (threshold : Fin 16) (base : Level), threshold ≠ 0 →
      ∃ u, exec (.generalConfigurationWrite h w [miss.code, byteOf threshold, byteOf base]) s = .next u.start
        ∧ s.writeDone u (writeRequest h w 0x0002 [miss.code, byteOf threshold, byteOf base]) k (generalBytes u.mga)
        ∧ u.mga = { s.mga with missAction := miss, absenceThreshold := threshold, baseFloor := base }
        ∧ u.ntu = NoticeUnit.arbitrate { s.ntu with floor := if s.ntu.stack = [] then base else s.ntu.floor }
        ∧ u.entries = s.entries ∧ u.rst = s.rst ∧ u.segA = s.segA ∧ u.segB = s.segB ∧ u.stations = s.stations)
    ∧ (∀ (x : Seg) (timeout : Byte) (limit : Fin 8) (interval : Half), timeout ≠ 0 → interval ≠ 0 →
      ∃ u, exec (.segmentConfigurationWrite h w x ([timeout, byteOf limit] ++ be16 interval)) s = .next u.start
        ∧ s.writeDone u (writeRequest h w (segmentObject x) ([timeout, byteOf limit] ++ be16 interval)) k
            (segmentBytes (u.seg x))
        ∧ u.seg x = { s.seg x with respTimeout := timeout, retryLimit := limit, probeInterval := interval }
        ∧ s.sameButSegment u x)
    ∧ (∀ interval : Byte, interval ≠ 0 →
      ∃ u, exec (.noticeConfigurationWrite h w [interval]) s = .next u.start
        ∧ s.writeDone u (writeRequest h w 0x0005 [interval]) k (noticeBytes u.ntu)
        ∧ u.ntu = { s.ntu with repeatInterval := interval } ∧ s.sameButNotices u)

/-! ### Commands -/

/-- R20: ENTRY_HOLD on a valid entry sets HOLD and is answered DONE with nothing in flight, waits with
something in flight, and is refused PENDING while a quiesce is pending. A management row is the arrival of
its request frame (the model's choice, log 1). -/
def Obligations.EntryHoldHoldsOrWaits : Prop :=
  ∀ (s : State) (h : WriteHead) (k : Fin 4) (e : EntryNo),
    s.reachesAgent h.tag k → h.position = 0 → (s.entry e).valid = true →
    ((s.entry e).holder = none → (s.entry e).inFlight = 0 →
      ∃ u, exec (.entryHold h (byteOf e)) s = .next u.start
        ∧ s.agentDone u (commandRequest h .entryHold [byteOf e]) k
        ∧ u.entry e = { s.entry e with hold := true } ∧ s.otherEntries u e ∧ s.sameButEntries u)
    ∧ ((s.entry e).holder = none → 0 < (s.entry e).inFlight →
      ∃ u, exec (.entryHold h (byteOf e)) s = .next u.start
        ∧ s.received u ∧ s.otherSlots u h.tag ∧ s.sameBuffers u ∧ u.rtp = s.rtp
        ∧ u.slot h.tag = { mgmtSlot (commandRequest h .entryHold [byteOf e]) k with state := .waiting }
        ∧ u.entry e = { s.entry e with hold := true, holder := some h.tag } ∧ s.otherEntries u e
        ∧ u.mga = { s.mga with
            pendingRecords := s.mga.pendingRecords ++ [{ tag := h.tag, command := .entryHold e }] }
        ∧ u.rst = s.rst ∧ u.segA = s.segA ∧ u.segB = s.segB ∧ u.stations = s.stations ∧ u.ntu = s.ntu)
    ∧ ((s.entry e).holder.isSome = true →
      ∃ u, exec (.entryHold h (byteOf e)) s = .next u.start
        ∧ s.agentRefuses u (commandRequest h .entryHold [byteOf e]) k .refused .pending)

/-- R22, R23: ENTRY_RELEASE clears HOLD, and a waiting ENTRY_HOLD is answered REFUSED/OVERTAKEN ahead of the
release's DONE, with MGMT_REFUSED on object 0040h; ENTRY_BAR sets BARRED and ENTRY_UNBAR clears it, whatever
it was. None of the three touches another field of the entry. A management row is the arrival of its request
frame (the model's choice, log 1). -/
def Obligations.EntryReleaseBarAndUnbarSetFlags : Prop :=
  ∀ (s : State) (h : WriteHead) (k : Fin 4) (e : EntryNo),
    s.reachesAgent h.tag k → h.position = 0 → (s.entry e).valid = true →
    ((s.entry e).holder = none →
      ∃ u, exec (.entryRelease h (byteOf e)) s = .next u.start
        ∧ s.agentDone u (commandRequest h .entryRelease [byteOf e]) k
        ∧ u.entry e = { s.entry e with hold := false } ∧ s.otherEntries u e ∧ s.sameButEntries u)
    ∧ (∀ t, (s.entry e).holder = some t → (s.slot t).state = .waiting →
      ∃ u, exec (.entryRelease h (byteOf e)) s = .next u.start
        ∧ s.received u ∧ s.sameBuffers u ∧ s.returns u [t, h.tag]
        ∧ u.slot h.tag = (mgmtSlot (commandRequest h .entryRelease [byteOf e]) k).answered .done .none .none
        ∧ u.slot t = (s.slot t).answered .refused .overtaken .none
        ∧ (∀ v, v ≠ h.tag → v ≠ t → u.slot v = s.slot v)
        ∧ u.entry e = { s.entry e with hold := false, holder := none } ∧ s.otherEntries u e
        ∧ u.mga = { s.mga with pendingRecords := s.mga.pendingRecords.filter (fun r => r.tag ≠ t) }
        ∧ u.ntu = s.ntu.raise nodeMgmtRefused 0x0040
        ∧ u.rst = s.rst ∧ u.segA = s.segA ∧ u.segB = s.segB ∧ u.stations = s.stations)
    ∧ (∃ u, exec (.entryBar h (byteOf e)) s = .next u.start
      ∧ s.agentDone u (commandRequest h .entryBar [byteOf e]) k
      ∧ u.entry e = { s.entry e with barred := true } ∧ s.otherEntries u e ∧ s.sameButEntries u)
    ∧ (∃ u, exec (.entryUnbar h (byteOf e)) s = .next u.start
      ∧ s.agentDone u (commandRequest h .entryUnbar [byteOf e]) k
      ∧ u.entry e = { s.entry e with barred := false } ∧ s.otherEntries u e ∧ s.sameButEntries u)

/-- R65, R73 and R66: STREAM_REWIND takes the cursor to 0 and remaining to total; MIRROR_INVALIDATE makes the
record INVALID with age 0 and clears its claim; a tick raises the age of a VALID mirror and nothing else. A
management row is the arrival of its request frame (the model's choice, log 1). -/
def Obligations.RecordCommandsAndTickActOnRecord : Prop :=
  (∀ (s : State) (h : WriteHead) (k : Fin 4) (r : RecordNo),
    s.reachesAgent h.tag k → h.position = 0 →
    ((s.record r).kind = .stream →
      ∃ u, exec (.streamRewind h (byteOf r)) s = .next u.start
        ∧ s.agentDone u (commandRequest h .streamRewind [byteOf r]) k
        ∧ u.record r = { s.record r with cursor := 0, remaining := (s.record r).total }
        ∧ s.otherRecords u r ∧ u.rst.store = s.rst.store ∧ s.sameButStore u)
    ∧ ((s.record r).kind = .mirror →
      ∃ u, exec (.mirrorInvalidate h (byteOf r)) s = .next u.start
        ∧ s.received u ∧ s.sameBuffers u ∧ s.returns u [h.tag] ∧ s.claimDropped u r h.tag
        ∧ u.slot h.tag = (mgmtSlot (commandRequest h .mirrorInvalidate [byteOf r]) k).answered .done .none .none
        ∧ u.record r = { s.record r with mirrorState := .invalid, age := 0, claim := none }
        ∧ s.otherRecords u r ∧ u.rst.store = s.rst.store ∧ s.sameButStore u))
  ∧ ∀ s : State, s.resetAsserted = false →
    ∃ u, exec .mirrorAgeTick s = .next u
      ∧ (∀ r, u.record r = if (s.record r).kind = .mirror ∧ (s.record r).mirrorState = .valid then
          { s.record r with age := if (s.record r).age = 0xFFFF then 0xFFFF else (s.record r).age + 1 }
          else s.record r)
      ∧ u = { s with rst := { s.rst with records := u.rst.records } }

/-- R98: SEGMENT_ENABLE makes a DISABLED or DRAINING segment ENABLED with its probe timer started; a waiting
disable is overtaken ahead of the enable's DONE; an ENABLED segment is left as it is. A management row is the
arrival of its request frame (the model's choice, log 1). -/
def Obligations.SegmentEnableEnables : Prop :=
  ∀ (s : State) (h : WriteHead) (k : Fin 4) (x : Seg),
    s.reachesAgent h.tag k → h.position = 0 →
    ((s.seg x).segState = .disabled → (s.seg x).queue = [] →
      ∃ u, exec (.segmentEnable h (segCode x)) s = .next u.start
        ∧ s.agentDone u (commandRequest h .segmentEnable [segCode x]) k
        ∧ u.seg x = { s.seg x with
            segState := .enabled, probeTimer := some (s.seg x).probeInterval, probeDue := false }
        ∧ s.sameButSegment u x)
    ∧ (∀ t, (s.seg x).segState = .draining → (s.seg x).queue = [] → (s.seg x).waitingDisable = some t →
      (s.slot t).state = .waiting →
      ∃ u, exec (.segmentEnable h (segCode x)) s = .next u.start
        ∧ s.received u ∧ s.sameBuffers u ∧ s.returns u [t, h.tag]
        ∧ u.slot h.tag = (mgmtSlot (commandRequest h .segmentEnable [segCode x]) k).answered .done .none .none
        ∧ u.slot t = (s.slot t).answered .refused .overtaken .none
        ∧ (∀ v, v ≠ h.tag → v ≠ t → u.slot v = s.slot v)
        ∧ u.seg x = { s.seg x with
            segState := .enabled, probeTimer := some (s.seg x).probeInterval, probeDue := false,
            waitingDisable := none }
        ∧ u.mga = { s.mga with pendingRecords := s.mga.pendingRecords.filter (fun r => r.tag ≠ t) }
        ∧ u.ntu = s.ntu.raise nodeMgmtRefused 0x0047
        ∧ u.entries = s.entries ∧ u.rst = s.rst ∧ (∀ y, y ≠ x → u.seg y = s.seg y) ∧ u.stations = s.stations)
    ∧ ((s.seg x).segState = .enabled → (s.seg x).mayDispatch = false →
      ∃ u, exec (.segmentEnable h (segCode x)) s = .next u.start
        ∧ s.agentDone u (commandRequest h .segmentEnable [segCode x]) k ∧ s.sameTables u)

/-- R95, R97: SEGMENT_DISABLE answers the queued slots SEGMENT_DOWN in queue order, stops the probe timer,
and either disables the segment or, with work on the engine, waits for its drain; it is refused PENDING while
the segment drains and changes nothing when it is DISABLED. A queued slot that is attached or holds a claim
leaves as DepartureActsOnEntry says. A management row is the arrival of its request frame (the model's
choice, log 1). -/
def Obligations.SegmentDisableDisablesOrDrains : Prop :=
  ∀ (s : State) (h : WriteHead) (k : Fin 4) (x : Seg),
    s.reachesAgent h.tag k → h.position = 0 →
    ((s.seg x).segState = .disabled →
      ∃ u, exec (.segmentDisable h (segCode x)) s = .next u.start
        ∧ s.agentDone u (commandRequest h .segmentDisable [segCode x]) k ∧ s.sameTables u)
    ∧ ((s.seg x).segState = .draining →
      ∃ u, exec (.segmentDisable h (segCode x)) s = .next u.start
        ∧ s.agentRefuses u (commandRequest h .segmentDisable [segCode x]) k .refused .pending)
    ∧ ((s.seg x).segState = .enabled → h.tag ∉ (s.seg x).queue → (s.seg x).queue.Nodup →
      (∀ t ∈ (s.seg x).queue, (s.slot t).attached = false ∧ (s.slot t).fillClaim = false) →
      ∃ u, exec (.segmentDisable h (segCode x)) s = .next u.start
        ∧ s.received u ∧ s.sameBuffers u ∧ u.entries = s.entries ∧ u.rst = s.rst
        ∧ (∀ y, y ≠ x → u.seg y = s.seg y) ∧ u.stations = s.stations ∧ u.ntu = s.ntu
        ∧ (∀ v, v ≠ h.tag → u.slot v = if v ∈ (s.seg x).queue
            then (s.slot v).answered .segmentDown .none .none else s.slot v)
        ∧ ((s.seg x).carried = .nothing →
            s.returns u ((s.seg x).queue ++ [h.tag]) ∧ u.mga = s.mga
            ∧ u.slot h.tag
                = (mgmtSlot (commandRequest h .segmentDisable [segCode x]) k).answered .done .none .none
            ∧ u.seg x = { s.seg x with
                segState := .disabled, queue := [], probeTimer := none, probeDue := false })
        ∧ ((s.seg x).carried ≠ .nothing →
            s.returns u (s.seg x).queue
            ∧ u.mga = { s.mga with
                pendingRecords := s.mga.pendingRecords ++ [{ tag := h.tag, command := .segmentDisable x }] }
            ∧ u.slot h.tag
                = { mgmtSlot (commandRequest h .segmentDisable [segCode x]) k with state := .waiting }
            ∧ (∀ t, (s.seg x).carried = .slot t → u.seg x = { s.seg x with
                segState := .draining, queue := [], probeTimer := none, probeDue := false, finalMark := true,
                waitingDisable := some h.tag })
            ∧ (∀ i, (s.seg x).carried = .probe i → u.seg x = { s.seg x with
                segState := .draining, queue := [], probeTimer := none, probeDue := false,
                waitingDisable := some h.tag })))
    ∧ (∀ t q, (s.seg x).segState = .enabled → (s.seg x).queue = t :: q → t ≠ h.tag → s.mayDepart t →
      exec (.segmentDisable h (segCode x)) s
        = exec (.segmentDisable h (segCode x))
            ((s.updSeg x (fun g => { g with queue := q })).turnAway t .segmentDown))

/-- R136, R137, R139: NOTICE_ACK of the SENT offer pushes its level, takes its sent count off and clears the
offer; any other is refused STALE. NOTICE_DONE pops the stack, and is refused STALE on an empty one. A
management row is the arrival of its request frame (the model's choice, log 1). -/
def Obligations.NoticeAckAndDoneServeTheStack : Prop :=
  ∀ (s : State) (h : WriteHead) (k : Fin 4),
    s.reachesAgent h.tag k → h.position = 0 →
    (∀ n : NodeNo, s.ntu.offer = some { node := n, state := .sent } →
      ∃ u, exec (.noticeAck h (byteOf n)) s = .next u.start
        ∧ s.agentDone u (commandRequest h .noticeAck [byteOf n]) k ∧ s.sameButNotices u
        ∧ u.ntu = NoticeUnit.arbitrate { s.ntu.updNode n (fun nd => { nd with
              count := nd.count - nd.sent, pending := decide (nd.count - nd.sent ≠ 0), sent := 0 }) with
            stack := (s.ntu.node n).level :: s.ntu.stack, floor := (s.ntu.node n).level, offer := none,
            due := false, repeatTimer := none })
    ∧ (∀ n : NodeNo, s.ntu.offer ≠ some { node := n, state := .sent } →
      ∃ u, exec (.noticeAck h (byteOf n)) s = .next u.start
        ∧ s.agentRefuses u (commandRequest h .noticeAck [byteOf n]) k .refused .stale)
    ∧ (∀ (l : Level) (ls : List Level), s.ntu.stack = l :: ls →
      ∃ u, exec (.noticeDone h) s = .next u.start
        ∧ s.agentDone u (commandRequest h .noticeDone []) k ∧ s.sameButNotices u
        ∧ u.ntu = NoticeUnit.arbitrate { s.ntu with stack := ls, floor := ls.headD s.mga.baseFloor })
    ∧ (s.ntu.stack = [] →
      ∃ u, exec (.noticeDone h) s = .next u.start
        ∧ s.agentRefuses u (commandRequest h .noticeDone []) k .refused .stale)

/-- R143: NOTICE_FORCE with set is an event whose detail stays; with clear it empties the node, withdraws it
if it is the offer, and the unit arbitrates. A management row is the arrival of its request frame (the
model's choice, log 1). -/
def Obligations.NoticeForceSetsAndClears : Prop :=
  ∀ (s : State) (h : WriteHead) (k : Fin 4) (n : NodeNo),
    s.reachesAgent h.tag k → h.position = 0 →
    (∃ u, exec (.noticeForceSet h (byteOf n)) s = .next u.start
      ∧ s.agentDone u (commandRequest h .noticeForce [byteOf n, 1]) k ∧ s.sameButNotices u
      ∧ u.ntu = (s.ntu.updNode n (fun nd => { nd with pending := true, count := satInc nd.count })).arbitrate)
    ∧ (∃ u, exec (.noticeForceClear h (byteOf n)) s = .next u.start
      ∧ s.agentDone u (commandRequest h .noticeForce [byteOf n, 2]) k ∧ s.sameButNotices u
      ∧ u.ntu = NoticeUnit.arbitrate
          (if s.ntu.offer.map Offer.node = some n then
            { s.ntu.updNode n (fun nd => { nd with pending := false, count := 0, sent := 0 }) with
              offer := none, due := false, repeatTimer := none }
          else s.ntu.updNode n (fun nd => { nd with pending := false, count := 0, sent := 0 })))

/-- R160, R161: COUNTERS_CLEAR sets all eighteen counters to 0 and changes no other state. RESTART is
answered DONE and sets the restart record. A management row is the arrival of its request frame (the model's
choice, log 1). -/
def Obligations.CountersClearAndRestartAreAccepted : Prop :=
  ∀ (s : State) (h : WriteHead) (k : Fin 4),
    s.reachesAgent h.tag k → h.position = 0 →
    (∃ u, exec (.countersClear h) s = .next u.start
      ∧ u.slot h.tag = (mgmtSlot (commandRequest h .countersClear []) k).answered .done .none .none
      ∧ s.otherSlots u h.tag ∧ s.sameBuffers u ∧ s.returns u [h.tag]
      ∧ (u.counters.rxFrames = 0 ∧ u.counters.rxCheckErrors = 0 ∧ u.counters.rxRestartDiscards = 0
        ∧ u.counters.clashDrops = 0 ∧ u.counters.txResponses = 0 ∧ u.counters.txNotices = 0
        ∧ u.counters.mirrorFills = 0 ∧ u.counters.mirrorFillSkips = 0)
      ∧ (∀ x, u.seg x = { s.seg x with
          counters := { transactions := 0, retries := 0, timeouts := 0, corrupt := 0, stray := 0 } })
      ∧ u.entries = s.entries ∧ u.rst = s.rst ∧ s.sameRest u
      ∧ u.upRx = Receiver.idle ∧ u.resetAsserted = s.resetAsserted ∧ u.freeIndex = s.freeIndex
      ∧ u.pending = s.pending)
    ∧ (∃ u, exec (.restartTraffic h) s = .next u.start
      ∧ s.agentDone u (commandRequest h .restart [1]) k
      ∧ u.mga = { s.mga with restart := some { tag := h.tag, scope := .traffic } } ∧ s.sameButAgent u)
    ∧ (∃ u, exec (.restartFull h) s = .next u.start
      ∧ s.agentDone u (commandRequest h .restart [2]) k
      ∧ u.mga = { s.mga with restart := some { tag := h.tag, scope := .full } } ∧ s.sameButAgent u)

/-! ### Requests on their way in -/

/-- R172: the four checks in their order, and what a failing frame leaves: it is dropped, counted, and
LINK_ERROR raised with its class. -/
def Obligations.FramesFailingTheChecksAreDropped : Prop :=
  (∀ (bs : List Byte) (n : Nat),
    (n < 13 ∨ 253 < n → checkRequest bs n = .error 2)
    ∧ (13 ≤ n → n ≤ 253 → crcPasses bs = false → checkRequest bs n = .error 1)
    ∧ (13 ≤ n → n ≤ 253 → crcPasses bs = true →
        (240 < (byteAt bs 10).toNat ∨ n ≠ 13 + (byteAt bs 10).toNat → checkRequest bs n = .error 2)
        ∧ ((byteAt bs 10).toNat ≤ 240 → n = 13 + (byteAt bs 10).toNat →
          (byteAt bs 0 ≠ 0xC3 ∨ byteAt bs 1 ≠ 0x01 ∨ 127 < (byteAt bs 2).toNat ∨ 31 < (byteAt bs 4).toNat →
            checkRequest bs n = .error 3)
          ∧ (byteAt bs 0 = 0xC3 → byteAt bs 1 = 0x01 → (byteAt bs 2).toNat ≤ 127 → (byteAt bs 4).toNat ≤ 31 →
            checkRequest bs n = .ok (requestOf bs)))))
  ∧ ∀ (s : State) (d : Half), s.resetAsserted = false → s.upRx.state = .receiving →
    checkRequest s.upRx.bytes s.upRx.count = .error d →
    ∃ u : State, exec .upstreamFrameEnd s = .next u.start
      ∧ u = { s with
          upRx := Receiver.idle
          counters := { s.counters with rxCheckErrors := satInc s.counters.rxCheckErrors }
          ntu := s.ntu.raise nodeLinkError d }

/-- R34 and R35: in a restart window a request is dropped and counted; on an occupied tag it raises TAG_CLASH
and joins the clash queue, or is dropped and counted when four entries wait. The occupying slot is not
touched. -/
def Obligations.RequestsThatGetNoSlot : Prop :=
  ∀ (s : State) (q : Request), s.receives q →
    (s.mga.restart.isSome = true →
      ∃ u : State, exec .upstreamFrameEnd s = .next u.start
        ∧ u = { s with
            upRx := Receiver.idle
            counters := { s.counters with
              rxFrames := satInc s.counters.rxFrames
              rxRestartDiscards := satInc s.counters.rxRestartDiscards } })
    ∧ (s.mga.restart = none → (s.slot q.tag).state ≠ .free → s.ort.clashQueue.length < 4 →
      ∃ u : State, exec .upstreamFrameEnd s = .next u.start
        ∧ u = { s with
            upRx := Receiver.idle
            counters := { s.counters with rxFrames := satInc s.counters.rxFrames }
            ntu := s.ntu.raise nodeTagClash (halfNat q.tag)
            ort := { s.ort with clashQueue := s.ort.clashQueue
              ++ [{ tag := q.tag, station := q.station, function := q.function }] } })
    ∧ (s.mga.restart = none → (s.slot q.tag).state ≠ .free → 4 ≤ s.ort.clashQueue.length →
      ∃ u : State, exec .upstreamFrameEnd s = .next u.start
        ∧ u = { s with
            upRx := Receiver.idle
            counters := { s.counters with
              rxFrames := satInc s.counters.rxFrames, clashDrops := satInc s.counters.clashDrops }
            ntu := s.ntu.raise nodeTagClash (halfNat q.tag) })

/-- R36 and R37: a request to station 127 with no free management buffer is answered BUSY/MGMT_FULL, and one
to another station is validated in the order of R37; both are LOCAL and change nothing else. -/
def Obligations.RequestsRefusedBeforeLookup : Prop :=
  ∀ (s : State) (q : Request), s.receives q → s.admits q.tag →
    (q.station = 127 → s.freeMgmtBuf = none →
      ∃ u, exec .upstreamFrameEnd s = .next u.start ∧ s.sameTables u
        ∧ s.answers u q.tag ((occupiedSlot q .localAnswer none).answered .busy .mgmtFull .none))
    ∧ (q.station ≠ 127 → ∀ rs : Reason,
      ((((q.function = 1 ∨ q.function = 4) ∧ q.payload ≠ []) ∨ (q.function ≠ 2 ∧ 240 < q.reqLen.toNat))
          ∧ rs = .badLength
        ∨ ((q.function = 1 ∨ q.function = 4 → q.payload = []) ∧ (q.function ≠ 2 → q.reqLen.toNat ≤ 240))
          ∧ (q.station = 0 ∧ q.function ≠ 2 ∧ rs = .badBroadcast
            ∨ q.station ≠ 0 ∧ q.function ≠ 1 ∧ q.function ≠ 2 ∧ q.function ≠ 3 ∧ q.function ≠ 4
              ∧ rs = .badFunction)) →
      ∃ u, exec .upstreamFrameEnd s = .next u.start ∧ s.sameTables u
        ∧ s.answers u q.tag ((occupiedSlot q .localAnswer none).answered .badRequest rs .none))

/-- R2, R4 and R5: of the valid entries that match in station, function and object, lookup gives the one of
lowest index, and a miss when there is none. -/
def Obligations.LookupIsFirstMatch : Prop :=
  ∀ (s : State) (q : Request) (m : EntryNo → Prop),
    (∀ e, m e ↔ (s.entry e).valid = true
      ∧ ((s.entry e).key = .any ∧ q.station.val ≤ 126 ∨ ∃ n, (s.entry e).key = .exact n ∧ n.val = q.station.val)
      ∧ (q.function = 1 ∧ (s.entry e).functions.read = true ∨ q.function = 2 ∧ (s.entry e).functions.write = true
        ∨ q.function = 3 ∧ (s.entry e).functions.exchange = true
        ∨ q.function = 4 ∧ (s.entry e).functions.ping = true)
      ∧ (s.entry e).objectLow.toNat ≤ q.object.toNat ∧ q.object.toNat ≤ (s.entry e).objectHigh.toNat) →
    (∀ e, s.lookup q = some e ↔ m e ∧ ∀ j, j < e → ¬ m j) ∧ (s.lookup q = none ↔ ∀ e, ¬ m e)

/-- R7, R8 and R9: a hit is counted, with ENTRY_HIT when it completes the notice interval; then BARRED is
answered REFUSED/BARRED, whatever HOLD holds, and HOLD BUSY/HELD, from a STEERED slot that takes nothing
else. -/
def Obligations.HitsAreCountedThenGated : Prop :=
  (∀ (s : State) (e : EntryNo),
    (s.countHit e).entry e = { s.entry e with
        hits := if (s.entry e).hits = 0xFFFFFFFF then 0xFFFFFFFF else (s.entry e).hits + 1
        phase := if (s.entry e).interval = 0 then (s.entry e).phase
          else if (s.entry e).phase + 1 = (s.entry e).interval then 0 else (s.entry e).phase + 1 }
    ∧ s.otherEntries (s.countHit e) e
    ∧ (s.countHit e).ntu = (if (s.entry e).interval ≠ 0 ∧ (s.entry e).phase + 1 = (s.entry e).interval
        then s.ntu.raise nodeEntryHit (halfNat e) else s.ntu))
  ∧ ∀ (s : State) (q : Request) (e : EntryNo), s.reachesLookup q → s.lookup q = some e →
    ((s.entry e).barred = true →
      ∃ u, exec .upstreamFrameEnd s = .next u.start
        ∧ s.answers u q.tag ((occupiedSlot q .steered (some e)).answered .refused .barred .none)
        ∧ u.entries = (s.countHit e).entries ∧ u.ntu = (s.countHit e).ntu
        ∧ u.rst = s.rst ∧ u.segA = s.segA ∧ u.segB = s.segB ∧ u.stations = s.stations ∧ u.mga = s.mga)
    ∧ ((s.entry e).barred = false → (s.entry e).hold = true →
      ∃ u, exec .upstreamFrameEnd s = .next u.start
        ∧ s.answers u q.tag ((occupiedSlot q .steered (some e)).answered .busy .held .none)
        ∧ u.entries = (s.countHit e).entries ∧ u.ntu = (s.countHit e).ntu
        ∧ u.rst = s.rst ∧ u.segA = s.segA ∧ u.segB = s.segB ∧ u.stations = s.stations ∧ u.mga = s.mga)

/-- R39: a miss raises MISS with the station; under REFUSE it is answered REFUSED/MISS from a LOCAL slot,
under FORWARD it goes down the forward path with no entry. -/
def Obligations.MissTakesTheDefaultAction : Prop :=
  ∀ (s : State) (q : Request), s.reachesLookup q → s.lookup q = none →
    (s.mga.missAction = .refuse →
      ∃ u, exec .upstreamFrameEnd s = .next u.start ∧ s.sameButNotices u
        ∧ s.answers u q.tag ((occupiedSlot q .localAnswer none).answered .refused .miss .none)
        ∧ u.ntu = s.ntu.raise nodeMiss (stationDetail q.station))
    ∧ (s.mga.missAction = .forward →
      exec .upstreamFrameEnd s
        = .next ((s.readyRx.countFrame.raise nodeMiss (stationDetail q.station)).forward q none).start)

/-- R61: a hit of action ANSWER is answered DONE from the FIXED record: a READ or EXCHANGE with the first
bytes of the region, which pins it, a WRITE or PING, and an answer of 0 bytes, with no payload and no pin. -/
def Obligations.FixedRecordAnswers : Prop :=
  ∀ (s : State) (q : Request) (e : EntryNo) (r : RecordNo) (n : Nat), s.reachesAction q e →
    (s.entry e).action = .answer r →
    n = (if q.function = 1 ∨ q.function = 3 then min q.reqLen.toNat (s.record r).length else 0) →
    ∃ u, exec .upstreamFrameEnd s = .next u.start
      ∧ s.answers u q.tag ((occupiedSlot q .localAnswer (some e)).answered .done .none
          (if n = 0 then .none else .record r (s.record r).base n))
      ∧ u.record r = { s.record r with pins := if n = 0 then (s.record r).pins else (s.record r).pins + 1 }
      ∧ s.otherRecords u r ∧ u.rst.store = s.rst.store
      ∧ u.entries = (s.countHit e).entries ∧ u.ntu = (s.countHit e).ntu
      ∧ u.segA = s.segA ∧ u.segB = s.segB ∧ u.stations = s.stations ∧ u.mga = s.mga

/-- R62, R63 and R64: a READ or EXCHANGE of a STREAM record with bytes remaining takes the next chunk, which
moves the cursor and raises STREAM_END when nothing remains; with none remaining it is refused EXHAUSTED, but
a READ under exhausted action FORWARD is forwarded; a WRITE or PING is answered DONE and moves nothing. -/
def Obligations.StreamRecordAnswersChunks : Prop :=
  ∀ (s : State) (q : Request) (e : EntryNo) (r : RecordNo) (n : Nat), s.reachesAction q e →
    (s.entry e).action = .stream r →
    n = min (s.record r).chunk (min q.reqLen.toNat (s.record r).remaining) →
    ((q.function = 1 ∨ q.function = 3) → 0 < (s.record r).remaining →
      ∃ u, exec .upstreamFrameEnd s = .next u.start
        ∧ s.answers u q.tag ((occupiedSlot q .localAnswer (some e)).answered .done .none
            (if n = 0 then .none else .record r ((s.record r).base + (s.record r).cursor) n))
        ∧ u.record r = { s.record r with
            cursor := (s.record r).cursor + n, remaining := (s.record r).remaining - n
            pins := if n = 0 then (s.record r).pins else (s.record r).pins + 1 }
        ∧ u.ntu = (if (s.record r).remaining = n then (s.countHit e).ntu.raise nodeStreamEnd (halfNat r)
            else (s.countHit e).ntu)
        ∧ s.otherRecords u r ∧ u.rst.store = s.rst.store ∧ u.entries = (s.countHit e).entries
        ∧ u.segA = s.segA ∧ u.segB = s.segB ∧ u.stations = s.stations ∧ u.mga = s.mga)
    ∧ ((q.function = 3 ∨ q.function = 1 ∧ (s.entry e).exhaustedAction = .refuse) → (s.record r).remaining = 0 →
      ∃ u, exec .upstreamFrameEnd s = .next u.start
        ∧ s.answers u q.tag ((occupiedSlot q .localAnswer (some e)).answered .refused .exhausted .none)
        ∧ u.rst = s.rst ∧ u.entries = (s.countHit e).entries ∧ u.ntu = (s.countHit e).ntu
        ∧ u.segA = s.segA ∧ u.segB = s.segB ∧ u.stations = s.stations ∧ u.mga = s.mga)
    ∧ (q.function = 1 → (s.entry e).exhaustedAction = .forward → (s.record r).remaining = 0 →
      exec .upstreamFrameEnd s = .next (((s.readyRx.countFrame.countHit e).forward q (some e)).start))
    ∧ ((q.function = 2 ∨ q.function = 4) →
      ∃ u, exec .upstreamFrameEnd s = .next u.start
        ∧ s.answers u q.tag ((occupiedSlot q .localAnswer (some e)).answered .done .none .none)
        ∧ u.rst = s.rst ∧ u.entries = (s.countHit e).entries ∧ u.ntu = (s.countHit e).ntu
        ∧ u.segA = s.segA ∧ u.segB = s.segB ∧ u.stations = s.stations ∧ u.mga = s.mga)

/-- R67, R68, R69 and R10: a READ of a VALID and fresh MIRROR record at position 0 within its length is
served and pins the record; a stale record becomes INVALID with MIRROR_STALE; every other READ, and every
WRITE, EXCHANGE and PING, is forwarded on the entry's account, as a hit of action FORWARD is. -/
def Obligations.MirrorServesOrForwards : Prop :=
  ∀ (s : State) (q : Request) (e : EntryNo), s.reachesAction q e →
    (∀ r, (s.entry e).action = .mirror r →
      (q.function = 1 → (s.record r).mirrorState = .valid →
        ((s.record r).maxAge = 0 ∨ (s.record r).age.toNat < (s.record r).maxAge.toNat) → q.position = 0 →
        q.reqLen.toNat ≤ (s.record r).length →
        ∃ u, exec .upstreamFrameEnd s = .next u.start
          ∧ s.answers u q.tag ((occupiedSlot q .localAnswer (some e)).answered .done .none
              (if q.reqLen = 0 then .none else .record r (s.record r).base q.reqLen.toNat))
          ∧ u.record r = { s.record r with
              pins := if q.reqLen = 0 then (s.record r).pins else (s.record r).pins + 1 }
          ∧ s.otherRecords u r ∧ u.rst.store = s.rst.store
          ∧ u.entries = (s.countHit e).entries ∧ u.ntu = (s.countHit e).ntu
          ∧ u.segA = s.segA ∧ u.segB = s.segB ∧ u.stations = s.stations ∧ u.mga = s.mga)
      ∧ (q.function = 1 → (s.record r).mirrorState = .valid → (s.record r).maxAge ≠ 0 →
        (s.record r).maxAge.toNat ≤ (s.record r).age.toNat →
        exec .upstreamFrameEnd s = .next (((((s.readyRx.countFrame.countHit e).updRecord r
          (fun rc => { rc with mirrorState := .invalid, age := 0 })).raise nodeMirrorStale (halfNat r)).forward q
            (some e)).start))
      ∧ (q.function = 1 → ((s.record r).mirrorState = .invalid
          ∨ ((s.record r).maxAge = 0 ∨ (s.record r).age.toNat < (s.record r).maxAge.toNat)
            ∧ (q.position ≠ 0 ∨ (s.record r).length < q.reqLen.toNat)) →
        exec .upstreamFrameEnd s = .next (((s.readyRx.countFrame.countHit e).forward q (some e)).start))
      ∧ (q.function ≠ 1 →
        exec .upstreamFrameEnd s = .next (((s.readyRx.countFrame.countHit e).forward q (some e)).start)))
    ∧ ((s.entry e).action = .forward →
      exec .upstreamFrameEnd s = .next (((s.readyRx.countFrame.countHit e).forward q (some e)).start))

/-- R40 to R44: the forward path's five checks in their order, each with its response, its event and nothing
else changed but the slot and the return queue. -/
def Obligations.ForwardPathRefusesInOrder : Prop :=
  ∀ (s : State) (q : Request) (e : Option EntryNo) (route : Option Seg), q.station ≠ 127 →
    ((q.station = 0 ∧ route = e.map (fun n => (s.entry n).broadcast))
      ∨ ∃ i, stationOf i = q.station ∧ route = (s.station i).home) →
    (∀ (u : State) (st : Status) (rs : Reason),
      u = s.forward q e →
      ((route = none ∧ st = .noRoute ∧ rs = .none)
        ∨ ∃ x, route = some x ∧
          (((∃ i, stationOf i = q.station ∧ (s.station i).presence = .absent) ∧ st = .absent ∧ rs = .none)
          ∨ (∀ i, stationOf i = q.station → (s.station i).presence ≠ .absent) ∧
            ((s.seg x).segState ≠ .enabled ∧ st = .segmentDown ∧ rs = .none
            ∨ (s.seg x).segState = .enabled ∧
              (12 ≤ (s.seg x).queue.length ∧ st = .busy ∧ rs = .queueFull
              ∨ (s.seg x).queue.length < 12 ∧ s.freeFrameBuf = none ∧ st = .busy ∧ rs = .poolEmpty)))) →
      u.slot q.tag = (occupiedSlot q (if e.isSome then .steered else .missForward) e).answered st rs .none
        ∧ s.otherSlots u q.tag ∧ s.sameBuffers u ∧ s.returns u [q.tag] ∧ s.sameButNotices u
        ∧ u.counters = s.counters ∧ u.upRx = s.upRx ∧ u.resetAsserted = s.resetAsserted
        ∧ u.freeIndex = s.freeIndex ∧ u.pending = s.pending
        ∧ u.ntu = (match rs, route with
          | .queueFull, some x => s.ntu.raise (nodeQueueFull x) (stationDetail q.station)
          | .poolEmpty, _ => s.ntu.raise nodePoolEmpty (stationDetail q.station)
          | _, _ => s.ntu))

/-- R45, R47, R11 and R68, R69: a forward that passes the checks takes the lowest free frame buffer with its
payload, joins the tail of its segment's queue, is attached to its entry, and acts on a MIRROR record as a
queued READ, WRITE or EXCHANGE does; then the segment may dispatch. -/
def Obligations.ForwardIsQueued : Prop :=
  ∀ (s : State) (q : Request) (e : Option EntryNo) (x : Seg) (k : Fin 24),
    s.route q e = some x → s.isAbsent q.station = false → (s.seg x).segState = .enabled →
    (s.seg x).queue.length < 12 → s.freeFrameBuf = some k → (∀ r, (s.record r).claim ≠ some q.tag) →
    ∃ u : State, s.forward q e = u.dispatch x
      ∧ u.seg x = { s.seg x with queue := (s.seg x).queue ++ [q.tag] } ∧ (∀ y, y ≠ x → u.seg y = s.seg y)
      ∧ (∀ j, u.ort.frameBuffers[j] = if j = k then q.payload ++ (s.ort.frameBuffers[k]).drop q.payload.length
          else s.ort.frameBuffers[j])
      ∧ u.ort.mgmtBuffers = s.ort.mgmtBuffers ∧ u.ort.clashQueue = s.ort.clashQueue
      ∧ (∀ n, u.entry n = if e = some n then { s.entry n with inFlight := (s.entry n).inFlight + 1 }
          else s.entry n)
      ∧ u.rst.store = s.rst.store ∧ u.stations = s.stations ∧ u.rtp = s.rtp ∧ u.ntu = s.ntu ∧ u.mga = s.mga
      ∧ u.counters = s.counters ∧ u.upRx = s.upRx ∧ u.resetAsserted = s.resetAsserted
      ∧ u.freeIndex = s.freeIndex ∧ u.pending = s.pending
      ∧ (∀ (claims : Bool) (mirror : Option RecordNo),
        mirror = e.bind (fun n => (s.entry n).action.mirror?) →
        (claims = true ↔ ∃ r, mirror = some r ∧ q.position = 0
          ∧ (q.function = 1 ∧ (s.record r).mirrorState = .invalid ∧ (s.record r).claim = none
              ∧ q.reqLen.toNat = (s.record r).length
            ∨ q.function = 2 ∧ q.payload.length = (s.record r).length)) →
        u.slot q.tag = { occupiedSlot q (if e.isSome then .steered else .missForward) e with
            state := .queued, segment := some x, frameBuf := some k, attached := e.isSome, fillClaim := claims }
        ∧ (∀ r, mirror ≠ some r → u.record r = s.record r)
        ∧ (∀ r, mirror = some r → u.record r =
            (if q.function = 2 ∨ q.function = 3 then { s.record r with
                mirrorState := .invalid, age := 0, claim := if claims then some q.tag else none }
              else if claims then { s.record r with claim := some q.tag } else s.record r))
        ∧ (∀ t, t ≠ q.tag → u.slot t = if (∃ r, mirror = some r ∧ (s.record r).claim = some t)
              ∧ (q.function = 2 ∨ q.function = 3) then { s.slot t with fillClaim := false } else s.slot t))

/-! ### The management agent -/

/-- R148 and R150, R153: a PING of the bridge is answered DONE; a READ captures the object as it stands,
truncated to the requested length. Neither changes anything but its own slot and buffer. The layouts of the
values are those of TableLayoutsRoundTrip. -/
def Obligations.AgentAnswersPingAndRead : Prop :=
  ∀ (s : State) (q : Request) (k : Fin 4), s.receives q → s.admits q.tag → q.station = 127 →
    s.freeMgmtBuf = some k → q.payload = [] → q.reqLen.toNat ≤ 240 →
    (q.function = 4 →
      ∃ u, exec .upstreamFrameEnd s = .next u.start ∧ s.agentDone u q k ∧ s.sameTables u)
    ∧ (q.function = 1 → ∀ v : List Byte,
      ((q.object = 0x0001 ∧ q.position = 0 ∧ v = [0x00, 0xD7, 0x06, 0x20, 0x03])
        ∨ (q.object = 0x0002 ∧ q.position = 0 ∧ v = generalBytes s.mga)
        ∨ (∃ x, q.object = segmentObject x ∧ q.position = 0 ∧ v = segmentBytes (s.seg x))
        ∨ (q.object = 0x0005 ∧ q.position = 0 ∧ v = noticeBytes s.ntu)
        ∨ (q.object = 0x0020 ∧ q.position = 0 ∧ v = counterBytes s.countFrame)
        ∨ (∃ n, q.object = entryObject n ∧ q.position = 0 ∧ v = entryBytes (s.entry n))
        ∨ (∃ n, q.object = descriptorObject n ∧ q.position = 0 ∧ v = recordBytes (s.record n))
        ∨ (∃ n, q.object = recordDataObject n ∧ q.position.toNat < (s.record n).size
            ∧ v = Memory.readRun s.rst.store ((s.record n).base + q.position.toNat)
                ((s.record n).size - q.position.toNat))
        ∨ (∃ i, q.object = stationObject i ∧ q.position = 0 ∧ v = stationBytes (s.station i))
        ∨ (∃ n, q.object = nodeObject n ∧ q.position = 0 ∧ v = nodeBytes (s.node n))) →
      ∃ u, exec .upstreamFrameEnd s = .next u.start ∧ s.received u
        ∧ u.slot q.tag = valueSlot q k (v.take q.reqLen.toNat) ∧ s.captured u k (v.take q.reqLen.toNat)
        ∧ s.otherSlots u q.tag ∧ s.returns u [q.tag] ∧ s.sameTables u)

/-- R148, R149, R151, R152 and R158: the agent's checks before the object's own, in their order; a refusal
answers the slot, raises MGMT_REFUSED with the object as received, and leaves all other state. -/
def Obligations.AgentRefusesInOrder : Prop :=
  ∀ (s : State) (q : Request) (k : Fin 4) (o : MgmtObject) (st : Status) (rs : Reason),
    s.receives q → s.admits q.tag → q.station = 127 → s.freeMgmtBuf = some k → o = objectOf q.object →
    (((((q.function = 1 ∨ q.function = 4) ∧ q.payload ≠ []) ∨ (q.function ≠ 2 ∧ 240 < q.reqLen.toNat))
        ∧ st = .badRequest ∧ rs = .badLength)
      ∨ (q.function ≠ 1 ∧ q.function ≠ 2 ∧ q.function ≠ 3 ∧ q.function ≠ 4 ∧ q.reqLen.toNat ≤ 240
        ∧ st = .badRequest ∧ rs = .badFunction)
      ∨ (q.function = 1 ∧ q.payload = [] ∧ q.reqLen.toNat ≤ 240 ∧ st = .refused
        ∧ (o.readable = false ∧ rs = .badObject
          ∨ o.readable = true ∧ q.position ≠ 0 ∧ (∀ n, o ≠ .recordData n) ∧ rs = .badValue
          ∨ (∃ n, o = .recordData n ∧ ((s.record n).kind = .none ∨ (s.record n).size ≤ q.position.toNat))
            ∧ rs = .badValue))
      ∨ ((q.function = 2 ∨ q.function = 3 ∧ q.reqLen.toNat ≤ 240) ∧ st = .refused
        ∧ ((o.writable = false ∨ q.function = 3 ∧ o.readable = false) ∧ rs = .badObject
          ∨ o.writable = true ∧ (q.function = 3 → o.readable = true) ∧ rs = .badValue
            ∧ (q.position ≠ 0 ∧ (∀ n, o ≠ .recordData n)
              ∨ ∃ n, o.writeSize = some n ∧ q.payload.length ≠ n)))) →
    ∃ u, exec .upstreamFrameEnd s = .next u.start ∧ s.agentRefuses u q k st rs

/-- R3, R55, R60, R94, R103, R129, R135, R154: a write of an object whose own checks fail is refused, each
check in its order, and changes nothing else. The last five clauses say which bytes the range checks of an
entry refuse (R175), which valid entries are inconsistent (R3), which bytes check 2 of a descriptor refuses
(R55, R176), when two regions overlap (R53), and when a record is referenced (R57). A management row is the
arrival of its request frame (the model's choice, log 1). -/
def Obligations.WritesFailingACheckAreRefused : Prop :=
  (∀ (s : State) (h : WriteHead) (w : WriteKind) (k : Fin 4),
      s.reachesAgent h.tag k → goodLength w h →
      (h.position = 0 →
        (∀ n p, p.length = 12 →
          (entryOf p = none ∨ ∃ new, entryOf p = some new ∧ new.valid = true ∧ s.entryConsistent new = false) →
          ∃ u, exec (.entryWrite h w n p) s = .next u.start
            ∧ s.agentRefuses u (writeRequest h w (entryObject n) p) k .refused .badValue)
        ∧ (∀ n p st rs, p.length = 8 →
          ((descriptorOf p = none ∧ st = .refused ∧ rs = .badValue)
            ∨ ∃ new, descriptorOf p = some new
              ∧ ((Config.storeSize < new.base + new.size ∨ s.overlapsOther n new = true)
                  ∧ st = .refused ∧ rs = .badValue
                ∨ new.base + new.size ≤ Config.storeSize ∧ s.overlapsOther n new = false
                  ∧ (0 < (s.record n).pins ∧ st = .busy ∧ rs = .inUse
                    ∨ (s.record n).pins = 0 ∧ s.referenced n = true
                      ∧ (new.kind ≠ (s.record n).kind ∨ new.kind = .none) ∧ st = .refused ∧ rs = .referenced))) →
          ∃ u, exec (.descriptorWrite h w n p) s = .next u.start
            ∧ s.agentRefuses u (writeRequest h w (descriptorObject n) p) k st rs)
        ∧ (∀ (i : StationNo) (b : Byte), 2 < b.toNat →
          ∃ u, exec (.stationRecordWrite h w i [b]) s = .next u.start
            ∧ s.agentRefuses u (writeRequest h w (stationObject i) [b]) k .refused .badValue)
        ∧ (∀ (n : NodeNo) (l b : Byte), 63 < l.toNat ∨ 1 < b.toNat →
          ∃ u, exec (.nodeWrite h w n [l, b]) s = .next u.start
            ∧ s.agentRefuses u (writeRequest h w (nodeObject n) [l, b]) k .refused .badValue)
        ∧ (∀ m a b : Byte, 1 < m.toNat ∨ a = 0 ∨ 15 < a.toNat ∨ 63 < b.toNat →
          ∃ u, exec (.generalConfigurationWrite h w [m, a, b]) s = .next u.start
            ∧ s.agentRefuses u (writeRequest h w 0x0002 [m, a, b]) k .refused .badValue)
        ∧ (∀ (x : Seg) (a b c d : Byte), a = 0 ∨ 7 < b.toNat ∨ (c = 0 ∧ d = 0) →
          ∃ u, exec (.segmentConfigurationWrite h w x [a, b, c, d]) s = .next u.start
            ∧ s.agentRefuses u (writeRequest h w (segmentObject x) [a, b, c, d]) k .refused .badValue)
        ∧ (∃ u, exec (.noticeConfigurationWrite h w [0]) s = .next u.start
            ∧ s.agentRefuses u (writeRequest h w 0x0005 [0]) k .refused .badValue))
      ∧ (∀ n p st rs, p.length ≤ 240 →
        (((s.record n).kind = .none ∨ p = [] ∨ (s.record n).size < h.position.toNat + p.length)
            ∧ st = .refused ∧ rs = .badValue
          ∨ (s.record n).kind ≠ .none ∧ p ≠ [] ∧ h.position.toNat + p.length ≤ (s.record n).size
            ∧ 0 < (s.record n).pins ∧ st = .busy ∧ rs = .inUse) →
        ∃ u, exec (.recordDataWrite h w n p) s = .next u.start
          ∧ s.agentRefuses u (writeRequest h w (recordDataObject n) p) k st rs))
  ∧ (∀ p : List Byte, entryOf p = none ↔
    31 < (byteAt p 0).toNat ∨ (126 < (byteAt p 1).toNat ∧ byteAt p 1 ≠ 0xFF) ∨ 15 < (byteAt p 2).toNat
      ∨ 3 < (byteAt p 7).toNat ∨ (byteAt p 7 ≠ 0 ∧ 47 < (byteAt p 8).toNat) ∨ 1 < (byteAt p 9).toNat
      ∨ (byteAt p 10 ≠ 1 ∧ byteAt p 10 ≠ 2))
  ∧ (∀ (s : State) (e : Entry), s.entryConsistent e = false ↔
    (e.functions.read = false ∧ e.functions.write = false ∧ e.functions.exchange = false
        ∧ e.functions.ping = false)
      ∨ e.objectHigh.toNat < e.objectLow.toNat
      ∨ (∃ r, e.action = .answer r ∧ (s.record r).kind ≠ .fixed)
      ∨ (∃ r, e.action = .stream r ∧ (s.record r).kind ≠ .stream)
      ∨ ∃ r, e.action = .mirror r ∧ ((s.record r).kind ≠ .mirror ∨ e.objectLow ≠ e.objectHigh))
  ∧ (∀ (p : List Byte) (base size : Nat), base = 256 * (byteAt p 1).toNat + (byteAt p 2).toNat →
    size = 256 * (byteAt p 3).toNat + (byteAt p 4).toNat →
    (descriptorOf p = none ↔ 3 < (byteAt p 0).toNat ∨ (byteAt p 0 ≠ 0 ∧ 12288 ≤ base)
      ∨ ((byteAt p 0 = 1 ∨ byteAt p 0 = 3) ∧ (size = 0 ∨ 240 < size))
      ∨ (byteAt p 0 = 2 ∧ (size = 0 ∨ 12288 < size ∨ byteAt p 5 = 0 ∨ 240 < (byteAt p 5).toNat))))
  ∧ (∀ (s : State) (n : RecordNo) (new : Record), s.overlapsOther n new = true ↔
    ∃ m, m ≠ n ∧ ∃ a, new.base ≤ a ∧ a < new.base + new.size
      ∧ (s.record m).base ≤ a ∧ a < (s.record m).base + (s.record m).size)
  ∧ ∀ (s : State) (n : RecordNo), s.referenced n = true ↔
    ∃ e, (s.entry e).valid = true
      ∧ ((s.entry e).action = .answer n ∨ (s.entry e).action = .stream n ∨ (s.entry e).action = .mirror n)

/-- R19, R65, R73, R98, R95, R110, R137, R142, R161, R177: a command whose argument lies outside its range,
or names an entry that is not valid or a record of another kind, is refused BAD_VALUE and changes nothing
else. The frames that no row names, by UPSTREAM_FRAME_END: a RESTART of another scope and a NOTICE_FORCE with
flags above 03h are refused too, and a NOTICE_FORCE with neither flag or with both is answered DONE and
changes nothing. A management row is the arrival of its request frame (the model's choice, log 1). -/
def Obligations.CommandsWithBadArgumentsAreRefused : Prop :=
  (∀ (s : State) (h : WriteHead) (k : Fin 4) (a : Byte) (i : Instr) (q : Request),
      s.reachesAgent h.tag k → h.position = 0 →
      (((∀ e, a = byteOf e.val → (s.entry e).valid = false)
          ∧ (i = .entryHold h a ∨ i = .entryRelease h a ∨ i = .entryBar h a ∨ i = .entryUnbar h a))
        ∨ ((∀ r, a = byteOf r.val → (s.record r).kind ≠ .stream) ∧ i = .streamRewind h a)
        ∨ ((∀ r, a = byteOf r.val → (s.record r).kind ≠ .mirror) ∧ i = .mirrorInvalidate h a)
        ∨ (a ≠ 1 ∧ a ≠ 2 ∧ (i = .segmentEnable h a ∨ i = .segmentDisable h a))
        ∨ ((a = 0 ∨ 126 < a.toNat) ∧ i = .stationForget h a)
        ∨ (19 < a.toNat ∧ (i = .noticeAck h a ∨ i = .noticeForceSet h a ∨ i = .noticeForceClear h a))) →
      requestOfRow i = some q →
      ∃ u, exec i s = .next u.start ∧ s.agentRefuses u q k .refused .badValue)
  ∧ ∀ (s : State) (q : Request) (k : Fin 4), s.receives q → s.admits q.tag → q.station = 127 →
    s.freeMgmtBuf = some k → q.function = 2 → q.position = 0 →
    (∀ a, q.object = 0x004D → q.payload = [a] → a ≠ 1 → a ≠ 2 →
      ∃ u, exec .upstreamFrameEnd s = .next u.start ∧ s.agentRefuses u q k .refused .badValue)
    ∧ (∀ n f : Byte, q.object = 0x004B → q.payload = [n, f] →
      (19 < n.toNat ∨ 3 < f.toNat →
        ∃ u, exec .upstreamFrameEnd s = .next u.start ∧ s.agentRefuses u q k .refused .badValue)
      ∧ (n.toNat ≤ 19 → f = 0 ∨ f = 3 →
        ∃ u, exec .upstreamFrameEnd s = .next u.start ∧ s.agentDone u q k ∧ s.sameTables u))

/-! ### The segment controllers -/

/-- R79, R80 and R81: a dispatch of an idle engine on an ENABLED segment, with no probe to send, takes the
queue head. A head whose station is ABSENT is answered ABSENT without a transaction, and the next head is
taken in the same event; any other goes ON_WIRE with attempt count 1 and its request frame is sent. A frame
that the segment's receiver has in progress is lost (R82), which `lose` marks (log 5). -/
def Obligations.DispatchTakesTheQueueHead : Prop :=
  ∀ (s : State) (x : Seg) (t : Tag) (q : List Tag), s.resetAsserted = false →
    (s.seg x).engine = .idle → (s.seg x).segState = .enabled → (s.seg x).queue = t :: q →
    ((s.seg x).probeDue = false ∨ ∀ i, ¬ ((s.station i).home = some x ∧ (s.station i).presence = .absent)) →
    ((∀ i, stationOf i = (s.slot t).station → (s.station i).presence ≠ .absent) →
      exec (.dispatch x) s = .next (State.start
        ((s.updSlot t (fun sl => { sl with state := .onWire, attempts := 1 })).updSeg x (fun g =>
          { g with
            engine := .sending, carried := .slot t, queue := q, probeDue := false, finalMark := false
            failure := none, responseTimer := none, gapTimer := none
            frame := requestFrame {
              station := (s.slot t).station, function := (s.slot t).function, tag := t
              object := (s.slot t).object, position := (s.slot t).position, reqLen := (s.slot t).reqLen
              payload := (s.slotBuffer t).take (s.slot t).payloadLen }
            rx := g.rx.lose
            counters := { g.counters with transactions := satInc g.counters.transactions } }))))
    ∧ ∀ (u : State) (i : StationNo), stationOf i = (s.slot t).station → (s.station i).presence = .absent →
      u = (s.updSeg x (fun g => { g with queue := q, probeDue := false })).turnAway t .absent →
      exec (.dispatch x) s = exec (.dispatch x) u ∧ (q = [] → exec (.dispatch x) s = .next u.start)

/-- R12, R21 and R72: a slot that is turned away without a transaction makes its in-flight decrement, which
may end a quiesce, sets no HOLD, drops its claim and is answered with payload source NONE. -/
def Obligations.DepartureActsOnEntry : Prop :=
  ∀ (s u : State) (t : Tag) (c : Option RecordNo) (st : Status), s.mayDepart t → s.claims t c →
    u = s.turnAway t st →
    s.departs u t (fun _ => false) st .none .none
      ∧ (∀ r, u.record r = if c = some r then { s.record r with claim := none } else s.record r)
      ∧ u.rst.store = s.rst.store ∧ u.segA = s.segA ∧ u.segB = s.segB ∧ u.stations = s.stations ∧ u.ntu = s.ntu
      ∧ s.sameBuffers u ∧ u.counters = s.counters ∧ s.sameLink u

/-- R79, R91, R92 and R93: a dispatch with a probe due sends a PING on tag 0 to the first ABSENT station
homed on the segment, from the probe pointer up, and the pointer moves past it. The expiry of a running probe
timer sets probe due and starts the timer with the probe interval; an idle engine of an ENABLED segment
dispatches. With no ABSENT station homed on the segment the dispatch clears probe due and goes on to the
queue head, and on an empty queue sends nothing. A frame that the segment's receiver has in progress when the
probe is sent is lost (R82), which `lose` marks (log 5). -/
def Obligations.ProbesFallDueAndAreSent : Prop :=
  ∀ (s : State) (x : Seg), s.resetAsserted = false →
    (∀ i : StationNo, (s.seg x).engine = .idle → (s.seg x).segState = .enabled → (s.seg x).probeDue = true →
      (s.station i).home = some x → (s.station i).presence = .absent →
      (∀ j, (j - (s.seg x).probePointer).val < (i - (s.seg x).probePointer).val →
        ¬ ((s.station j).home = some x ∧ (s.station j).presence = .absent)) →
      exec (.dispatch x) s = .next (State.start (s.updSeg x (fun g =>
        { g with
          engine := .sending, carried := .probe i, probeDue := false, probePointer := i + 1
          failure := none, responseTimer := none, gapTimer := none
          frame := requestFrame { station := stationOf i, function := 4, tag := 0, object := 0, position := 0
                                  reqLen := 0, payload := [] }
          rx := g.rx.lose }))))
    ∧ ((s.seg x).engine = .idle → (s.seg x).segState = .enabled → (s.seg x).probeDue = true →
      (∀ i, ¬ ((s.station i).home = some x ∧ (s.station i).presence = .absent)) → (s.seg x).queue = [] →
      exec (.dispatch x) s = .next (State.start (s.updSeg x (fun g => { g with probeDue := false }))))
    ∧ ∀ u : State, (s.seg x).probeTimer.isSome = true →
      u = s.updSeg x (fun g => { g with probeDue := true, probeTimer := some g.probeInterval }) →
      exec (.probeTimerExpiry x) s = exec (.dispatch x) u
        ∧ ((s.seg x).engine ≠ .idle ∨ (s.seg x).segState ≠ .enabled →
          exec (.probeTimerExpiry x) s = .next u.start)

/-- R81 and R89: at the end of its frame a carried probe, or a slot of a station that is not 0, goes to
AWAITING with the response timer set; a broadcast takes its outcome DONE and the engine enters GAP. -/
def Obligations.SegmentFrameEndAwaitsOrCompletesBroadcast : Prop :=
  ∀ (s : State) (x : Seg), s.resetAsserted = false → (s.seg x).engine = .sending →
    ((∃ t, (s.seg x).carried = .slot t ∧ (s.slot t).station ≠ 0) ∨ (∃ i, (s.seg x).carried = .probe i) →
      exec (.segmentFrameTxEnd x) s = .next (State.start (s.updSeg x (fun g =>
        { g with engine := .awaiting, responseTimer := some g.respTimeout, frame := [] }))))
    ∧ (∀ (t : Tag) (c : Option RecordNo), (s.seg x).carried = .slot t → (s.slot t).station = 0 →
      s.mayDepart t → s.claims t c → s.mayFill t c .done 0 →
      ∃ u, exec (.segmentFrameTxEnd x) s = .next u.start
        ∧ s.departs u t (Entry.heldBy .done) .done .none (.buffer 0) ∧ s.settles u t c .done
        ∧ u.ntu = s.heldNotice t .done s.ntu
        ∧ u.seg x = { s.seg x with
            engine := .gap, carried := .nothing, failure := none, responseTimer := none, gapTimer := some 4
            frame := [] }
        ∧ (∀ y, y ≠ x → u.seg y = s.seg y) ∧ u.stations = s.stations ∧ s.sameBuffers u ∧ s.sameLink u)

/-- R82, R84 and R85: a frame received on a segment is discarded when the segment is DISABLED, is a stray
outside AWAITING or when it does not match the carried work, and ends the attempt CORRUPT when it is
malformed or matches with a bad status. (A frame that the start of a transmission cut into is lost: log 5.) -/
def Obligations.ReceivedSegmentFrameIsJudged : Prop :=
  ∀ (s : State) (x : Seg) (frame : Option Response), s.resetAsserted = false →
    (s.seg x).rx.state = .receiving → frame = checkResponse (s.seg x).rx.bytes (s.seg x).rx.count →
    ((s.seg x).rx.lost = true ∨ (s.seg x).segState = .disabled ∨ (s.seg x).engine = .sending →
      exec (.segmentFrameRxEnd x) s = .next (State.start (s.updSeg x (fun g =>
        { g with rx := { state := .ready, bytes := [], count := 0, lost := false } }))))
    ∧ ((s.seg x).rx.lost = false → (s.seg x).segState ≠ .disabled →
      ((s.seg x).engine = .idle ∨ (s.seg x).engine = .gap
        ∨ (s.seg x).engine = .awaiting ∧ ∃ r, frame = some r
          ∧ (∀ t, (s.seg x).carried = .slot t → ¬ (r.station = byteOf (s.slot t).station ∧ r.tag = byteOf t))
          ∧ (∀ i, (s.seg x).carried = .probe i → ¬ (r.station = byteOf (stationOf i) ∧ r.tag = 0))) →
      exec (.segmentFrameRxEnd x) s = .next (State.start (s.updSeg x (fun g =>
        { g with
          rx := { state := .ready, bytes := [], count := 0, lost := false }
          counters := { g.counters with stray := satInc g.counters.stray } }))))
    ∧ ((s.seg x).rx.lost = false → (s.seg x).segState ≠ .disabled → (s.seg x).engine = .awaiting →
      ∀ carried : Carried,
      ((∃ t, (s.seg x).carried = .slot t ∧ carried = .slot t
          ∧ (frame = none ∨ ∃ r, frame = some r ∧ r.station = byteOf (s.slot t).station ∧ r.tag = byteOf t
            ∧ 2 < r.status.toNat))
        ∨ ∃ i, (s.seg x).carried = .probe i ∧ carried = .nothing
          ∧ (frame = none ∨ ∃ r, frame = some r ∧ r.station = byteOf (stationOf i) ∧ r.tag = 0
            ∧ 2 < r.status.toNat)) →
      exec (.segmentFrameRxEnd x) s = .next (State.start (s.updSeg x (fun g =>
        { g with
          rx := { state := .ready, bytes := [], count := 0, lost := false }
          engine := .gap, carried := carried
          failure := if carried = .nothing then none else some .corrupt
          responseTimer := none, gapTimer := some 4, frame := []
          counters := { g.counters with corrupt := satInc g.counters.corrupt } }))))

/-- R83, R87, R88 and R104: an accepted response stops the timer, writes its payload to the start of the
slot's frame buffer, makes the station PRESENT unless it is ABSENT, takes the outcome by station status,
function and length, and the engine enters GAP. -/
def Obligations.AcceptedResponseEndsTransaction : Prop :=
  ∀ (s : State) (x : Seg) (t : Tag) (i : StationNo) (k : Fin 24) (r : Response) (c : Option RecordNo) (st : Status)
    (rs : Reason) (src : PayloadSource), s.resetAsserted = false →
    (s.seg x).rx.state = .receiving → (s.seg x).rx.lost = false → (s.seg x).segState ≠ .disabled →
    (s.seg x).engine = .awaiting → (s.seg x).carried = .slot t →
    checkResponse (s.seg x).rx.bytes (s.seg x).rx.count = some r →
    stationOf i = (s.slot t).station → r.station = byteOf (s.slot t).station → r.tag = byteOf t →
    (s.slot t).frameBuf = some k → s.mayDepart t → s.claims t c → s.mayFill t c st r.payload.length →
    (r.status = 1 ∧ st = .busy ∧ rs = .station ∧ src = .none
      ∨ r.status = 2 ∧ st = .refused ∧ rs = .station ∧ src = .none
      ∨ r.status = 0 ∧ rs = .none ∧
        (((s.slot t).function = 1 ∨ (s.slot t).function = 3) ∧
          (r.payload.length = (s.slot t).reqLen.toNat ∧ st = .done ∧ src = .buffer r.payload.length
          ∨ r.payload.length < (s.slot t).reqLen.toNat ∧ st = .short ∧ src = .buffer r.payload.length
          ∨ (s.slot t).reqLen.toNat < r.payload.length ∧ st = .overrun ∧ src = .none)
        ∨ ((s.slot t).function = 2 ∨ (s.slot t).function = 4) ∧
          (r.payload = [] ∧ st = .done ∧ src = .buffer 0 ∨ r.payload ≠ [] ∧ st = .overrun ∧ src = .none))) →
    ∃ u, exec (.segmentFrameRxEnd x) s = .next u.start
      ∧ s.departs u t (Entry.heldBy st) st rs src ∧ s.settles u t c st ∧ u.ntu = s.heldNotice t st s.ntu
      ∧ u.station i = (if (s.station i).presence = .absent then s.station i
          else { s.station i with presence := .present, failures := 0 })
      ∧ s.otherStations u i
      ∧ (∀ j, u.ort.frameBuffers[j] = if j = k then r.payload ++ (s.ort.frameBuffers[k]).drop r.payload.length
          else s.ort.frameBuffers[j])
      ∧ u.ort.mgmtBuffers = s.ort.mgmtBuffers ∧ u.ort.clashQueue = s.ort.clashQueue
      ∧ u.seg x = { s.seg x with
          rx := { state := .ready, bytes := [], count := 0, lost := false }
          engine := .gap, carried := .nothing, failure := none, responseTimer := none, gapTimer := some 4
          frame := [] }
      ∧ (∀ y, y ≠ x → u.seg y = s.seg y) ∧ s.sameLink u

/-- R83, R93 and R107: an accepted response of a probe, of any status, makes the station PRESENT with failure
count 0 and raises FOUND of the probing segment; the engine enters GAP. -/
def Obligations.AnsweredProbeFindsStation : Prop :=
  ∀ (s : State) (x : Seg) (i : StationNo) (r : Response), s.resetAsserted = false →
    (s.seg x).rx.state = .receiving → (s.seg x).rx.lost = false → (s.seg x).segState ≠ .disabled →
    (s.seg x).engine = .awaiting → (s.seg x).carried = .probe i →
    checkResponse (s.seg x).rx.bytes (s.seg x).rx.count = some r →
    r.station = byteOf (stationOf i) → r.tag = 0 → r.status.toNat ≤ 2 →
    exec (.segmentFrameRxEnd x) s = .next (State.start
      (((s.updSeg x (fun g => { g with
          rx := { state := .ready, bytes := [], count := 0, lost := false }
          engine := .gap, carried := .nothing, failure := none, responseTimer := none, gapTimer := some 4
          frame := [] })).updStation i (fun rc => { rc with presence := .present, failures := 0 })).updNotices
            (fun n => n.raise (if x = .a then 2 else 3) (BitVec.ofNat 16 (i.val + 1)))))

/-- R85 and R86: an expired response timer ends the attempt NO_ANSWER; at the end of the gap a slot within
its retry limit and without the final mark is sent again, with the same frame. A frame that the segment's
receiver has in progress then is lost (R82), which `lose` marks (log 5). -/
def Obligations.AttemptsTimeOutAndAreRetried : Prop :=
  (∀ (s : State) (x : Seg) (carried : Carried), s.resetAsserted = false → (s.seg x).engine = .awaiting →
    (s.seg x).responseTimer.isSome = true →
    ((∃ t, (s.seg x).carried = .slot t ∧ carried = .slot t)
      ∨ ∃ i, (s.seg x).carried = .probe i ∧ carried = .nothing) →
    exec (.responseTimerExpiry x) s = .next (s.updSeg x (fun g =>
      { g with
        engine := .gap, carried := carried
        failure := if carried = .nothing then none else some .noAnswer
        responseTimer := none, gapTimer := some 4, frame := []
        counters := { g.counters with timeouts := satInc g.counters.timeouts } })))
  ∧ ∀ (s : State) (x : Seg) (t : Tag), s.resetAsserted = false → (s.seg x).engine = .gap →
    (s.seg x).carried = .slot t → (s.slot t).attempts ≤ (s.seg x).retryLimit.val → (s.seg x).finalMark = false →
    exec (.gapEnd x) s = .next (State.start
      ((s.updSlot t (fun sl => { sl with attempts := sl.attempts + 1 })).updSeg x (fun g =>
        { g with
          engine := .sending, carried := .slot t
          failure := none, responseTimer := none, gapTimer := none
          frame := requestFrame {
            station := (s.slot t).station, function := (s.slot t).function, tag := t
            object := (s.slot t).object, position := (s.slot t).position, reqLen := (s.slot t).reqLen
            payload := (s.slotBuffer t).take (s.slot t).payloadLen }
          rx := g.rx.lose
          counters := { g.counters with retries := satInc g.counters.retries } })))

/-- R86, R87, R88, R105 and R106: at the end of the gap after its last permitted attempt a slot takes its
outcome from that attempt's failure: SEG_FAIL, the station's failure count and presence with LOST when it
becomes ABSENT, its entry, its claim and its answer; then the gap ends as one that carries nothing. -/
def Obligations.LastFailureTakesOutcome : Prop :=
  ∀ (s : State) (x : Seg) (t : Tag) (i : StationNo) (n : Fin 16) (f : AttemptFailure) (st : Status)
    (c : Option RecordNo), s.resetAsserted = false → (s.seg x).engine = .gap → (s.seg x).carried = .slot t →
    ((s.seg x).retryLimit.val < (s.slot t).attempts ∨ (s.seg x).finalMark = true) →
    (s.seg x).failure = some f → (f = .noAnswer ∧ st = .noAnswer ∨ f = .corrupt ∧ st = .corrupt) →
    stationOf i = (s.slot t).station → n.val = min 15 ((s.station i).failures.val + 1) →
    s.mayDepart t → s.claims t c →
    ∃ u, exec (.gapEnd x) s = exec (.gapEnd x) u
      ∧ s.departs u t (fun _ => false) st .none .none ∧ s.settles u t c st
      ∧ u.station i = { s.station i with
          failures := n
          presence := if (s.station i).presence = .absent ∨ s.mga.absenceThreshold ≤ n then .absent else .suspect }
      ∧ s.otherStations u i
      ∧ u.ntu = (if (s.station i).presence ≠ .absent ∧ s.mga.absenceThreshold ≤ n then
          (s.ntu.raise (nodeSegFail x) (BitVec.ofNat 16 (i.val + 1))).raise
            (nodeLost ((s.station i).home.getD x)) (BitVec.ofNat 16 (i.val + 1))
          else s.ntu.raise (nodeSegFail x) (BitVec.ofNat 16 (i.val + 1)))
      ∧ u.seg x = { s.seg x with carried := .nothing } ∧ (∀ y, y ≠ x → u.seg y = s.seg y)
      ∧ s.sameBuffers u ∧ s.sameLink u

/-- R86 and R96: at the end of a gap that carries nothing the engine is IDLE with the final mark clear; then
an ENABLED segment may dispatch, and a DRAINING one is DISABLED and its waiting disable answered DONE. -/
def Obligations.GapEndRestsDispatchesOrDrains : Prop :=
  ∀ (s m : State) (x : Seg), s.resetAsserted = false → (s.seg x).engine = .gap → (s.seg x).carried = .nothing →
    m = s.updSeg x (fun g => { g with
      engine := .idle, carried := .nothing, failure := none, finalMark := false, responseTimer := none
      gapTimer := none, frame := [] }) →
    ((s.seg x).segState = .enabled → exec (.gapEnd x) s = exec (.dispatch x) m)
    ∧ ((s.seg x).segState = .disabled → exec (.gapEnd x) s = .next m.start)
    ∧ (∀ w, (s.seg x).segState = .draining → (s.seg x).waitingDisable = some w →
      exec (.gapEnd x) s = .next (State.start
        { (m.updSlot w (fun sl => sl.answered .done .none .none)).updSeg x (fun g =>
            { g with segState := .disabled, waitingDisable := none }) with
          rtp := { s.rtp with queue := s.rtp.queue ++ [w] }
          mga := { s.mga with pendingRecords := s.mga.pendingRecords.filter (fun r => r.tag ≠ w) } }))

/-! ### The notice unit -/

/-- R128, R131 and R132: an event makes its node pending with one more in the count and its detail; the
winner is the eligible node of highest level, the lowest number among equals; an arbitration compares it with
the offer. -/
def Obligations.ArbitrationOffersTheWinner : Prop :=
  (∀ (s : State) (k : NodeNo) (d : Half), s.raise k d = { s with ntu := (s.ntu.updNode k (fun nd =>
      { nd with pending := true, count := if nd.count = 255 then 255 else nd.count + 1, detail := d })).arbitrate })
  ∧ ∀ (n : NoticeUnit) (eligible : NodeNo → Prop),
    (∀ k, eligible k ↔ (n.node k).pending = true ∧ (n.node k).enabled = true ∧ 1 ≤ (n.node k).level.val
      ∧ n.floor < (n.node k).level ∧ n.stack.length < 4) →
    (∀ k, eligible k →
      (∀ j, eligible j → (n.node j).level < (n.node k).level ∨ (n.node j).level = (n.node k).level ∧ k ≤ j) →
      (∀ o, n.offer = some o → o.node = k → n.arbitrate = n)
      ∧ (n.offer = none → n.arbitrate = { n with offer := some { node := k, state := .notSent }, due := true })
      ∧ (∀ o, n.offer = some o → o.node ≠ k →
          n.arbitrate = { n.updNode o.node (fun nd => { nd with sent := 0 }) with
            offer := some { node := k, state := .notSent }, due := true, repeatTimer := none }))
    ∧ ((∀ k, ¬ eligible k) →
      (n.offer = none → n.arbitrate = n)
      ∧ (∀ o, n.offer = some o →
          n.arbitrate = { n.updNode o.node (fun nd => { nd with sent := 0 }) with
            offer := none, due := false, repeatTimer := none }))

/-- R121 and R135: the end of a notice frame marks the offer SENT, with the lower of the latched count and
the node's as its sent count, when the latched node is still offered, and the repeat timer starts; its expiry
makes a frame due again. -/
def Obligations.NoticeFrameEndMarksTheOfferSent : Prop :=
  ∀ s : State, s.resetAsserted = false →
    (s.rtp.txState = .transmitting → s.rtp.carries = .notice →
      (∀ (o : Offer) (c : Byte), s.ntu.offer = some o → o.node = s.rtp.latch.node →
        c.toNat = min s.rtp.latch.count.toNat (s.ntu.node o.node).count.toNat →
        exec .noticeFrameEnd s = .next { s with
          ntu := { s.ntu.updNode o.node (fun nd => { nd with sent := c }) with
            offer := some { node := o.node, state := .sent }, repeatTimer := some s.ntu.repeatInterval }
          counters := { s.counters with txNotices := satInc s.counters.txNotices }
          rtp := { s.rtp with txState := .spacing, carries := .nothing, frame := [] } })
      ∧ ((∀ o, s.ntu.offer = some o → o.node ≠ s.rtp.latch.node) →
        exec .noticeFrameEnd s = .next { s with
          counters := { s.counters with txNotices := satInc s.counters.txNotices }
          rtp := { s.rtp with txState := .spacing, carries := .nothing, frame := [] } }))
    ∧ (s.ntu.repeatTimer.isSome = true →
      exec .repeatTimerExpiry s
        = .next (State.start { s with ntu := { s.ntu with due := true, repeatTimer := none } }))

/-! ### The return path -/

/-- R115, R117, R118 and R119: an IDLE transmitter takes a due notice frame, else the clash queue head, else
the return queue head, and composes its frame from the state as it stands. -/
def Obligations.StartTakesTheFirstSource : Prop :=
  ∀ s : State, s.resetAsserted = false →
    exec .startOfTransmission s = .next s.start
    ∧ (s.rtp.txState ≠ .idle → s.start = s)
    ∧ (s.rtp.txState = .idle →
      (∀ (o : Offer) (l : NoticeLatch), s.ntu.due = true → s.ntu.offer = some o →
        l = { node := o.node, level := (s.ntu.node o.node).level, count := (s.ntu.node o.node).count
              detail := (s.ntu.node o.node).detail } →
        s.start = { s with
          ntu := { s.ntu with due := false }
          rtp := { s.rtp with
            txState := .transmitting, carries := .notice, latch := l
            frame := sealFrame ([0x03, byteOf l.node, byteOf l.level, l.count] ++ be16 l.detail) } })
      ∧ (∀ (c : ClashEntry) (q : List ClashEntry), s.ntu.due = false → s.ort.clashQueue = c :: q →
        s.start = { s with rtp := { s.rtp with
          txState := .transmitting, carries := .clash
          frame := sealFrame [0x02, byteOf c.station, byteOf c.tag, 10, c.function, 0] } })
      ∧ (∀ (t : Tag) (q : List Tag) (st : Status) (rs : Reason) (payload : List Byte),
        s.ntu.due = false → s.ort.clashQueue = [] → s.rtp.queue = t :: q →
        (s.slot t).status = some st → (s.slot t).reason = some rs →
        ((s.slot t).source = some .none ∧ payload = []
          ∨ (∃ k n, (s.slot t).source = some (.buffer n) ∧ (s.slot t).frameBuf = some k
              ∧ payload = (s.ort.frameBuffers[k]).take n)
          ∨ (∃ r o n, (s.slot t).source = some (.record r o n) ∧ payload = Memory.readRun s.rst.store o n)
          ∨ ∃ k n, (s.slot t).source = some (.management n) ∧ (s.slot t).mgmtBuf = some k
              ∧ payload = (s.ort.mgmtBuffers[k]).take n) →
        s.start = { s.updSlot t (fun sl => { sl with state := .sending }) with rtp := { s.rtp with
          queue := q, txState := .transmitting, carries := .slot t
          frame := responseFrame (s.slot t).station t st.code rs.code payload } })
      ∧ (s.ntu.due = false → s.ort.clashQueue = [] → s.rtp.queue = [] → s.start = s))

/-- R31, R114 and R120: the end of a slot's response frame frees the slot, releases its pin and counts the
frame, when no restart is pending on it; the end of a clash frame removes the clash queue's head; the end of
the spacing makes the transmitter IDLE, and a frame starts if anything waits. -/
def Obligations.ResponseFrameEndsFreeWhatTheyHeld : Prop :=
  ∀ s : State, s.resetAsserted = false →
    (∀ t : Tag, s.rtp.txState = .transmitting → s.rtp.carries = .slot t →
      (∀ r, s.mga.restart = some r → r.tag ≠ t) →
      ∃ u, exec .responseFrameEnd s = .next u
        ∧ u = { s with
            ort := { s.ort with slots := u.ort.slots }
            rst := { s.rst with records := u.rst.records }
            counters := { s.counters with txResponses := satInc s.counters.txResponses }
            rtp := { s.rtp with txState := .spacing, carries := .nothing, frame := [] } }
        ∧ u.slot t = {} ∧ s.otherSlots u t
        ∧ ∀ r, u.record r = if (s.slot t).reads r = true then
            { s.record r with pins := (s.record r).pins - 1 } else s.record r)
    ∧ (s.rtp.txState = .transmitting → s.rtp.carries = .clash →
      exec .clashFrameEnd s = .next { s with
        ort := { s.ort with clashQueue := s.ort.clashQueue.tail }
        counters := { s.counters with txResponses := satInc s.counters.txResponses }
        rtp := { s.rtp with txState := .spacing, carries := .nothing, frame := [] } })
    ∧ (s.rtp.txState = .spacing →
      exec .spacingEnd s = .next (State.start { s with rtp := { s.rtp with txState := .idle } }))

/-- R122, R163 and R164: at the end of its frame a RESTART is performed. Scope TRAFFIC: every slot FREE, all
queues, pins, claims, in-flight counts and waits gone, engines IDLE, the offer and the service stack cleared;
tables, configuration and counters are kept. Scope FULL: every block takes its power-on values, the receivers
keep their states and the transmitter runs out its spacing (log 10). -/
def Obligations.PerformedRestartsActByScope : Prop :=
  ∀ (s : State) (t : Tag), s.resetAsserted = false → s.rtp.txState = .transmitting → s.rtp.carries = .slot t →
    (s.mga.restart = some { tag := t, scope := .traffic } →
      ∃ u, exec .responseFrameEnd s = .next u
        ∧ (∀ v, u.slot v = {}) ∧ u.ort.frameBuffers = s.ort.frameBuffers ∧ u.ort.mgmtBuffers = s.ort.mgmtBuffers
        ∧ u.ort.clashQueue = []
        ∧ (∀ e, u.entry e = { s.entry e with inFlight := 0, holder := none })
        ∧ (∀ r, u.record r = { s.record r with pins := 0, claim := none }) ∧ u.rst.store = s.rst.store
        ∧ (∀ x, u.seg x = { s.seg x with
            engine := .idle, carried := .nothing, failure := none, finalMark := false, responseTimer := none
            gapTimer := none, frame := [], queue := [], probeDue := false, waitingDisable := none
            segState := if (s.seg x).segState = .enabled then .enabled else .disabled
            probeTimer := if (s.seg x).segState = .enabled then some (s.seg x).probeInterval else none })
        ∧ u.stations = s.stations
        ∧ u.rtp = { s.rtp with queue := [], txState := .spacing, carries := .nothing, frame := [] }
        ∧ (∃ n : NoticeUnit, u.ntu = n.arbitrate ∧ (∀ k, n.node k = { s.node k with sent := 0 })
          ∧ n.offer = none ∧ n.due = false ∧ n.repeatTimer = none ∧ n.repeatInterval = s.ntu.repeatInterval
          ∧ n.stack = [] ∧ n.floor = s.mga.baseFloor)
        ∧ u.mga = { s.mga with pendingRecords := [], restart := none }
        ∧ u.counters = { s.counters with txResponses := satInc s.counters.txResponses } ∧ s.sameLink u)
    ∧ (s.mga.restart = some { tag := t, scope := .full } →
      exec .responseFrameEnd s = .next { State.reset with
        rtp := { State.reset.rtp with txState := .spacing }
        upRx := s.upRx
        segA := { State.reset.segA with rx := s.segA.rx }
        segB := { State.reset.segB with rx := s.segB.rx }
        freeIndex := s.freeIndex, pending := s.pending })

/-! ### The pins and the lines -/

/-- R24, R51, R74, R100, R111, R124, R144 and R166: the power-on values, block by block. -/
def Obligations.ResetHoldsPowerOnValues : Prop :=
  (∀ t, State.reset.slot t = {}) ∧ State.reset.ort.clashQueue = []
    ∧ State.reset.freeFrameBuf = some 0 ∧ State.reset.freeMgmtBuf = some 0
    ∧ (∀ e, State.reset.entry e = {
        valid := false, key := .exact 0
        functions := { read := false, write := false, exchange := false, ping := false }
        objectLow := 0, objectHigh := 0, action := .forward, exhaustedAction := .refuse, broadcast := .a
        interval := 0, hold := false, barred := false, holdAfterDone := false, holdOnShort := false
        hits := 0, phase := 0, inFlight := 0, holder := none })
    ∧ (∀ a, Memory.read State.reset.rst.store a = 0)
    ∧ (∀ r, State.reset.record r = {
        kind := .none, base := 0, length := 0, total := 0, chunk := 0, maxAge := 0, cursor := 0, remaining := 0
        mirrorState := .invalid, age := 0, claim := none, pins := 0 })
    ∧ (∀ x, State.reset.seg x = {
        segState := .disabled, queue := [], engine := .idle, carried := .nothing, failure := none
        finalMark := false, respTimeout := 100, retryLimit := 2, probeInterval := 500
        responseTimer := none, gapTimer := none, probeTimer := none, probeDue := false, probePointer := 0
        waitingDisable := none, frame := []
        counters := { transactions := 0, retries := 0, timeouts := 0, corrupt := 0, stray := 0 }
        rx := { state := .waitIdle, bytes := [], count := 0, lost := false } })
    ∧ (∀ i, State.reset.station i = { home := none, presence := .unknown, failures := 0 })
    ∧ State.reset.rtp = {
        queue := [], txState := .idle, carries := .nothing, frame := []
        latch := { node := 0, level := 0, count := 0, detail := 0 } }
    ∧ (∀ k, State.reset.node k = {
        level := 0, enabled := false, pending := false, count := 0, sent := 0, detail := 0 })
    ∧ State.reset.ntu.offer = none ∧ State.reset.ntu.due = false ∧ State.reset.ntu.repeatTimer = none
    ∧ State.reset.ntu.repeatInterval = 25 ∧ State.reset.ntu.stack = [] ∧ State.reset.ntu.floor = 0
    ∧ State.reset.mga = {
        pendingRecords := [], restart := none, missAction := .refuse, absenceThreshold := 3, baseFloor := 0 }
    ∧ State.reset.counters = {
        rxFrames := 0, rxCheckErrors := 0, rxRestartDiscards := 0, clashDrops := 0, txResponses := 0
        txNotices := 0, mirrorFills := 0, mirrorFillSkips := 0 }
    ∧ State.reset.upRx = { state := .waitIdle, bytes := [], count := 0, lost := false }

/-- R165, R166 and R179: RESET# asserted for at least 10 µs takes the part to its power-on values at once, in
every state; its release and power-up leave them, with every receiver in WAIT_IDLE. A shorter pulse is taken
or changes nothing, as a free value that is used once says (log 8). That RESET_RELEASE with RESET# not
asserted changes nothing is the model's choice (an event out of place, log 4). The commands that wait and the
index of the free values are the model's own and stay. -/
def Obligations.ResetAndPowerUpTakePowerOnValues : Prop :=
  ∀ s : State,
    exec (.resetAssert .full) s
        = .next { State.reset with resetAsserted := true, freeIndex := s.freeIndex, pending := s.pending }
      ∧ (s.resetAsserted = true →
        exec .resetRelease s = .next { State.reset with freeIndex := s.freeIndex, pending := s.pending })
      ∧ (s.resetAsserted = false → exec .resetRelease s = .next s)
      ∧ exec .powerUp s = .next { State.reset with freeIndex := s.freeIndex, pending := s.pending }
      ∧ (Config.shortPulseTaken s.freeIndex = true → exec (.resetAssert .short) s
        = .next { State.reset with resetAsserted := true, freeIndex := s.freeIndex + 1, pending := s.pending })
      ∧ (Config.shortPulseTaken s.freeIndex = false → exec (.resetAssert .short) s
        = .next { s with freeIndex := s.freeIndex + 1 })

/-- R165: while RESET# stays asserted the part holds its values: no event but one of the pin or the supply
changes anything. -/
def Obligations.AssertedResetHoldsEverything : Prop :=
  ∀ (s : State) (c : Instr), s.resetAsserted = true →
    (∀ w, c ≠ .resetAssert w) → c ≠ .resetRelease → c ≠ .powerUp → exec c s = .next s

/-- R167 and R82: a byte begins a frame in READY, joins it in RECEIVING, where bytes beyond the largest frame
are counted and not kept, and is discarded in WAIT_IDLE; a segment's receiver takes no byte while its engine
is SENDING. An idle gap takes WAIT_IDLE to READY; in RECEIVING it is the frame's end, to READY: the frame is
judged in that event, as at its line's own frame end (log 6), but a segment frame lost to SENDING is not
judged (R82; log 5). That bytes which go on after SENDING begin a fresh frame, or join the lost one, is the
model's choice (logs 13 and 5). -/
def Obligations.ReceiversFollowTheirStates : Prop :=
  ∀ (s : State) (l : Line) (b : Byte) (rx : Receiver) (largest : Nat) (frameEnd : Instr) (put : Receiver → State),
    s.resetAsserted = false →
    (l = .upstream ∧ rx = s.upRx ∧ largest = 253 ∧ frameEnd = .upstreamFrameEnd
        ∧ put = (fun r => { s with upRx := r })
      ∨ ∃ x, l = .segment x ∧ rx = (s.seg x).rx ∧ largest = 249 ∧ frameEnd = .segmentFrameRxEnd x
        ∧ put = fun r => s.updSeg x (fun g => { g with rx := r })) →
    (∀ x, l = .segment x → (s.seg x).engine = .sending → exec (.byteArrival l b) s = .next s)
    ∧ ((∀ x, l = .segment x → (s.seg x).engine ≠ .sending) →
      (rx.state = .waitIdle → exec (.byteArrival l b) s = .next s)
      ∧ (rx.state = .ready →
        exec (.byteArrival l b) s = .next (put { state := .receiving, bytes := [b], count := 1, lost := false }))
      ∧ (rx.state = .receiving → rx.bytes.length < largest →
        exec (.byteArrival l b) s = .next (put { rx with bytes := rx.bytes ++ [b], count := rx.count + 1 }))
      ∧ (rx.state = .receiving → largest ≤ rx.bytes.length →
        exec (.byteArrival l b) s = .next (put { rx with count := rx.count + 1 })))
    ∧ (rx.state = .waitIdle →
      exec (.receiverIdleGap l) s
        = .next (State.start (put { state := .ready, bytes := [], count := 0, lost := false })))
    ∧ (rx.state = .ready → exec (.receiverIdleGap l) s = .next s.start)
    ∧ (rx.state = .receiving →
      (∃ u, exec (.receiverIdleGap l) s = .next u ∧ exec frameEnd s = .next u
        ∧ (l = .upstream → u.upRx = { state := .ready, bytes := [], count := 0, lost := false })
        ∧ ∀ x, l = .segment x → (u.seg x).rx = { state := .ready, bytes := [], count := 0, lost := false })
      ∧ (∀ x, l = .segment x → rx.lost = true →
        exec (.receiverIdleGap l) s
          = .next (State.start (put { state := .ready, bytes := [], count := 0, lost := false }))))

/-- Log 4: an event whose precondition does not hold changes nothing by itself (the model's choice): a timer
that does not run does not expire, an engine or a transmitter that is not in the state that the event ends
stays in its state, a receiver with no frame in progress ends none. In WAIT_IDLE the end of a frame, that of
a management row's frame too, takes nothing and makes the receiver READY (R167, as log 6 reads it). -/
def Obligations.EventsOutOfPlaceChangeNothing : Prop :=
  ∀ s : State, s.resetAsserted = false →
    (∀ x, ((s.seg x).engine ≠ .idle ∨ (s.seg x).segState ≠ .enabled
        ∨ (s.seg x).probeDue = false ∧ (s.seg x).queue = []) → exec (.dispatch x) s = .next s.start)
    ∧ (∀ x, (s.seg x).engine ≠ .sending → exec (.segmentFrameTxEnd x) s = .next s.start)
    ∧ (∀ x, (s.seg x).rx.state = .ready → exec (.segmentFrameRxEnd x) s = .next s.start)
    ∧ (∀ x, ((s.seg x).engine ≠ .awaiting ∨ (s.seg x).responseTimer = none) →
        exec (.responseTimerExpiry x) s = .next s)
    ∧ (∀ x, (s.seg x).engine ≠ .gap → exec (.gapEnd x) s = .next s.start)
    ∧ (∀ x, (s.seg x).probeTimer = none → exec (.probeTimerExpiry x) s = .next s.start)
    ∧ (s.upRx.state = .ready → exec .upstreamFrameEnd s = .next s.start)
    ∧ (∀ x, (s.seg x).rx.state = .waitIdle → exec (.segmentFrameRxEnd x) s = .next (State.start
        (s.updSeg x (fun g => { g with rx := { state := .ready, bytes := [], count := 0, lost := false } }))))
    ∧ (s.upRx.state = .waitIdle → ∀ u : State,
        u = { s with upRx := { state := .ready, bytes := [], count := 0, lost := false } } →
        exec .upstreamFrameEnd s = .next u.start
        ∧ ∀ i q, requestOfRow i = some q → exec i s = .next u.start)
    ∧ ((s.rtp.txState ≠ .transmitting ∨ ∀ t, s.rtp.carries ≠ .slot t) → exec .responseFrameEnd s = .next s)
    ∧ (s.rtp.txState ≠ .transmitting ∨ s.rtp.carries ≠ .clash → exec .clashFrameEnd s = .next s)
    ∧ (s.rtp.txState ≠ .transmitting ∨ s.rtp.carries ≠ .notice → exec .noticeFrameEnd s = .next s)
    ∧ (s.rtp.txState ≠ .spacing → exec .spacingEnd s = .next s)
    ∧ (s.ntu.repeatTimer = none → exec .repeatTimerExpiry s = .next s)

/-! ### Steps -/

/-- A step takes the command at the front of the queue and runs it on the state with the queue's rest. -/
def Obligations.StepRunsTheFrontCommand : Prop :=
  ∀ (c : Instr) (s : State), step { s with pending := c :: s.pending } = exec c s

/-- Every command answers a next state in every state (DEDUCED, log 12; for an event out of place by the
model's choice, log 4) and leaves the waiting commands alone; an empty queue idles (the model's choice, log
3). -/
def Obligations.EveryCommandCompletes : Prop :=
  (∀ (c : Instr) (s : State), ∃ t, exec c s = .next t ∧ t.pending = s.pending)
    ∧ ∀ s : State, s.pending = [] → step s = .next s

/-- Log 1: a row that is a management request does what its request frame does when it arrives byte by byte
and the line then goes idle; so does every request frame with its fields. -/
def Obligations.ArrivingFrameIsItsRow : Prop :=
  ∀ (s : State) (q : Request), s.resetAsserted = false → s.upRx.state = .ready → q.payload.length ≤ 240 →
    s.pending = (requestFrame q).map (Instr.byteArrival .upstream) ++ [.upstreamFrameEnd] →
    Sys2Proof.core.run s.pending.length s = requestEvent q { s with pending := [] }
      ∧ ∀ i, requestOfRow i = some q → Sys2Proof.core.run s.pending.length s = exec i { s with pending := [] }

/-- R168, R170 and R82: which received frames are well-formed responses and what they carry; a response frame
as composed is read back with every field. -/
def Obligations.ResponseFramesRoundTrip : Prop :=
  (∀ (bs : List Byte) (n : Nat) (r : Response), checkResponse bs n = some r ↔
    byteAt bs 0 = 0xC3 ∧ byteAt bs 1 = 0x02 ∧ n = 9 + (byteAt bs 6).toNat ∧ (byteAt bs 6).toNat ≤ 240
      ∧ bs.drop (bs.length - 2) = be16 (crc ((bs.drop 1).take (bs.length - 3)))
      ∧ r = { station := byteAt bs 2, tag := byteAt bs 3, status := byteAt bs 4
              payload := (bs.drop 7).take (byteAt bs 6).toNat })
  ∧ ∀ (station : Station) (tag : Tag) (status reason : Byte) (payload : List Byte), payload.length ≤ 240 →
    (responseFrame station tag status reason payload).length = 9 + payload.length
      ∧ checkResponse (responseFrame station tag status reason payload) (9 + payload.length)
        = some { station := byteOf station, tag := byteOf tag, status := status, payload := payload }

/-- R174, R175 and R176, R155: the layouts in which objects are read, byte by byte, and the object numbers of
the tables (R149); the writable bytes of a steering entry, and of a record descriptor, write back the fields
they were read from and are read as they were written, but for the bytes that are not stored: the record byte
of FORWARD reads FFh, and those of a descriptor's fields of other kinds read 0. -/
def Obligations.TableLayoutsRoundTrip : Prop :=
  ((∀ w : Half, be16 w = [byteOf (w.toNat / 256), byteOf (w.toNat % 256)])
    ∧ (∀ w : Long, be32 w = [byteOf (w.toNat / 2 ^ 24), byteOf (w.toNat / 2 ^ 16 % 256),
        byteOf (w.toNat / 256 % 256), byteOf (w.toNat % 256)])
    ∧ (∀ m : Agent, generalBytes m
      = [if m.missAction = .refuse then 0 else 1, byteOf m.absenceThreshold, byteOf m.baseFloor])
    ∧ (∀ g : Segment, segmentBytes g = [g.respTimeout, byteOf g.retryLimit] ++ be16 g.probeInterval
        ++ [match g.segState with | .disabled => 0 | .enabled => 1 | .draining => 2, byteOf g.queue.length,
          match g.engine with | .idle => 0 | .sending => 1 | .awaiting => 2 | .gap => 3])
    ∧ (∀ n : NoticeUnit, (noticeBytes n).length = 9
      ∧ (noticeBytes n).take 4 = [n.repeatInterval,
        match n.offer with | none => 0xFF | some o => byteOf o.node,
        match n.offer with | none => 0 | some o => if o.state = .notSent then 1 else 2, byteOf n.stack.length]
      ∧ (∀ i, i < 4 → byteAt (noticeBytes n) (4 + i)
        = match n.stack.reverse[i]? with | none => 0 | some l => byteOf l)
      ∧ byteAt (noticeBytes n) 8 = byteOf n.floor)
    ∧ (∀ s : State, counterBytes s
      = [s.counters.rxFrames, s.counters.rxCheckErrors, s.counters.rxRestartDiscards, s.counters.clashDrops,
        s.counters.txResponses, s.counters.txNotices, s.segA.counters.transactions, s.segA.counters.retries,
        s.segA.counters.timeouts, s.segA.counters.corrupt, s.segA.counters.stray, s.segB.counters.transactions,
        s.segB.counters.retries, s.segB.counters.timeouts, s.segB.counters.corrupt, s.segB.counters.stray,
        s.counters.mirrorFills, s.counters.mirrorFillSkips].flatMap be32)
    ∧ (∀ e : Entry, entryBytes e
      = [byteOf (e.valid.toNat + 2 * e.hold.toNat + 4 * e.barred.toNat + 8 * e.holdAfterDone.toNat
          + 16 * e.holdOnShort.toNat), match e.key with | .any => 0xFF | .exact n => byteOf n,
          byteOf (e.functions.read.toNat + 2 * e.functions.write.toNat + 4 * e.functions.exchange.toNat
            + 8 * e.functions.ping.toNat)]
        ++ be16 e.objectLow ++ be16 e.objectHigh
        ++ (match e.action with
          | .forward => [0, 0xFF] | .answer r => [1, byteOf r] | .stream r => [2, byteOf r]
          | .mirror r => [3, byteOf r])
        ++ [if e.exhaustedAction = .refuse then 0 else 1, if e.broadcast = .a then 1 else 2, e.interval]
        ++ be32 e.hits
        ++ [e.phase, byteOf e.inFlight, byteOf e.holder.isSome.toNat,
          match e.holder with | none => 0xFF | some t => byteOf t])
    ∧ (∀ r : Record, recordBytes r
      = ([match r.kind with | .none => 0 | .fixed => 1 | .stream => 2 | .mirror => 3] : List Byte)
        ++ be16 (BitVec.ofNat 16 r.base)
        ++ be16 (BitVec.ofNat 16
          (match r.kind with | .none => 0 | .fixed => r.length | .stream => r.total | .mirror => r.length))
        ++ [byteOf r.chunk] ++ be16 r.maxAge ++ be16 (BitVec.ofNat 16 r.cursor)
        ++ be16 (BitVec.ofNat 16 r.remaining) ++ [if r.mirrorState = .valid then 1 else 0] ++ be16 r.age
        ++ [match r.claim with | none => 0xFF | some t => byteOf t, byteOf r.pins])
    ∧ (∀ r : StationRecord, stationBytes r
      = [match r.home with | none => 0 | some x => if x = .a then 1 else 2,
        match r.presence with | .unknown => 0 | .present => 1 | .suspect => 2 | .absent => 3, byteOf r.failures])
    ∧ (∀ n : Node, nodeBytes n
      = [byteOf n.level, byteOf n.enabled.toNat, byteOf n.pending.toNat, n.count, n.sent] ++ be16 n.detail))
  ∧ ((∀ n, (entryObject n).toNat = 0x0100 + n) ∧ (∀ n, (descriptorObject n).toNat = 0x0200 + n)
    ∧ (∀ n, (recordDataObject n).toNat = 0x0300 + n) ∧ (∀ n, (stationObject n).toNat = 0x0401 + n)
    ∧ (∀ n, (nodeObject n).toNat = 0x0500 + n) ∧ ∀ x, segmentObject x = if x = .a then 0x0003 else 0x0004)
  ∧ (∀ e : Entry, (entryBytes e).length = 20 ∧ entryOf ((entryBytes e).take 12)
      = some { e with hits := 0, phase := 0, inFlight := 0, holder := none })
  ∧ (∀ (p : List Byte) (e : Entry), p.length = 12 → entryOf p = some e →
      (entryBytes e).take 12 = if byteAt p 7 = 0 then p.set 8 0xFF else p)
  ∧ (∀ (p : List Byte) (r : Record), descriptorOf p = some r →
      (recordBytes r).length = 17 ∧ descriptorOf ((recordBytes r).take 8) = some r)
  ∧ ∀ (p : List Byte) (r : Record), p.length = 8 → descriptorOf p = some r →
      (recordBytes r).take 8 = (if byteAt p 0 = 0 then [0, 0, 0, 0, 0, 0, 0, 0]
        else if byteAt p 0 = 1 then p.take 5 ++ [0, 0, 0]
        else if byteAt p 0 = 2 then p.take 6 ++ [0, 0] else p.take 5 ++ [0] ++ p.drop 6)

/-! ### Laws that every step keeps -/

/-- R53, R54, R57, R66 and R70: the store's bytes keep their canonical form, regions stay within the store
and pairwise disjoint, and records and references keep their law. -/
def Obligations.EveryStepKeepsTheReplyStoreLaws : Prop :=
  ∀ s t : State, step s = .next t →
    (s.storeLaw → t.storeLaw) ∧ (s.regionLaw → t.regionLaw) ∧ (s.recordLaw → t.recordLaw)

/-- R8, R94, R102, R108 and R135: hit phases stay below their intervals, failure counts agree with presence,
and configuration fields stay in range. -/
def Obligations.EveryStepKeepsTheFieldLaws : Prop :=
  ∀ s t : State, step s = .next t → (s.phaseLaw → t.phaseLaw) ∧ (s.presenceLaw → t.presenceLaw)

/-- R127, R130, R131 and R139: the offer stays the winner, counts agree with pending, and the stack strictly
rises to the floor. -/
def Obligations.EveryStepKeepsTheNoticeLaw : Prop :=
  ∀ s t : State, step s = .next t → s.noticeLaw → t.noticeLaw

/-- R11, R30, R47, R58, R77, R79, R113 and R115: every slot stays in the one place its state names, no
dispatch and no start of transmission is left to make, and in-flight counts, pins and buffers stay accounted
for by the slots. -/
def Obligations.EveryStepKeepsEverySlotPlacedAndAccounted : Prop :=
  ∀ s t : State, step s = .next t → s.placeLaw → s.accountLaw → t.placeLaw ∧ t.accountLaw

/-- R45, R69 to R71, R76, R85 and R117: slots hold the buffers and answers that their states ask for, and
fill claims agree with the slots that hold them. -/
def Obligations.EveryStepKeepsHoldingsAndClaims : Prop :=
  ∀ s t : State, step s = .next t → s.placeLaw → s.accountLaw → s.holdLaw → s.claimLaw → t.holdLaw ∧ t.claimLaw

/-- The state after reset meets every law that the steps keep. -/
def Obligations.ResetMeetsTheLaws : Prop :=
  State.reset.storeLaw ∧ State.reset.regionLaw ∧ State.reset.recordLaw ∧ State.reset.phaseLaw
    ∧ State.reset.presenceLaw ∧ State.reset.noticeLaw ∧ State.reset.placeLaw ∧ State.reset.accountLaw
    ∧ State.reset.holdLaw ∧ State.reset.claimLaw

end
end

