-- ==== Sys2Proof/Laws/State.lean ====
section
/-! SUPPORT. What each update of the state leaves and sets: one lemma per field or accessor and update, so that
no later proof unfolds a record update. -/

namespace Sys2Proof.Machine.State

variable (s : State)

/-! ### updSlot -/

@[simp] theorem updSlot_entries (u : Tag) (f : Slot → Slot) : (s.updSlot u f).entries = s.entries := rfl
@[simp] theorem updSlot_rst (u : Tag) (f : Slot → Slot) : (s.updSlot u f).rst = s.rst := rfl
@[simp] theorem updSlot_segA (u : Tag) (f : Slot → Slot) : (s.updSlot u f).segA = s.segA := rfl
@[simp] theorem updSlot_segB (u : Tag) (f : Slot → Slot) : (s.updSlot u f).segB = s.segB := rfl
@[simp] theorem updSlot_stations (u : Tag) (f : Slot → Slot) : (s.updSlot u f).stations = s.stations := rfl
@[simp] theorem updSlot_rtp (u : Tag) (f : Slot → Slot) : (s.updSlot u f).rtp = s.rtp := rfl
@[simp] theorem updSlot_ntu (u : Tag) (f : Slot → Slot) : (s.updSlot u f).ntu = s.ntu := rfl
@[simp] theorem updSlot_mga (u : Tag) (f : Slot → Slot) : (s.updSlot u f).mga = s.mga := rfl
@[simp] theorem updSlot_counters (u : Tag) (f : Slot → Slot) : (s.updSlot u f).counters = s.counters := rfl
@[simp] theorem updSlot_upRx (u : Tag) (f : Slot → Slot) : (s.updSlot u f).upRx = s.upRx := rfl
@[simp] theorem updSlot_resetAsserted (u : Tag) (f : Slot → Slot) : (s.updSlot u f).resetAsserted = s.resetAsserted := rfl
@[simp] theorem updSlot_freeIndex (u : Tag) (f : Slot → Slot) : (s.updSlot u f).freeIndex = s.freeIndex := rfl
@[simp] theorem updSlot_pending (u : Tag) (f : Slot → Slot) : (s.updSlot u f).pending = s.pending := rfl
@[simp] theorem updSlot_entry (u : Tag) (f : Slot → Slot) (n : EntryNo) : (s.updSlot u f).entry n = s.entry n := rfl
@[simp] theorem updSlot_record (u : Tag) (f : Slot → Slot) (n : RecordNo) : (s.updSlot u f).record n = s.record n := rfl
@[simp] theorem updSlot_station (u : Tag) (f : Slot → Slot) (n : StationNo) : (s.updSlot u f).station n = s.station n := rfl
@[simp] theorem updSlot_seg (u : Tag) (f : Slot → Slot) (y : Seg) : (s.updSlot u f).seg y = s.seg y := by cases y <;> rfl
@[simp] theorem updSlot_node (u : Tag) (f : Slot → Slot) (n : NodeNo) : (s.updSlot u f).node n = s.node n := rfl

/-! ### updEntry -/

@[simp] theorem updEntry_ort (e : EntryNo) (f : Entry → Entry) : (s.updEntry e f).ort = s.ort := rfl
@[simp] theorem updEntry_rst (e : EntryNo) (f : Entry → Entry) : (s.updEntry e f).rst = s.rst := rfl
@[simp] theorem updEntry_segA (e : EntryNo) (f : Entry → Entry) : (s.updEntry e f).segA = s.segA := rfl
@[simp] theorem updEntry_segB (e : EntryNo) (f : Entry → Entry) : (s.updEntry e f).segB = s.segB := rfl
@[simp] theorem updEntry_stations (e : EntryNo) (f : Entry → Entry) : (s.updEntry e f).stations = s.stations := rfl
@[simp] theorem updEntry_rtp (e : EntryNo) (f : Entry → Entry) : (s.updEntry e f).rtp = s.rtp := rfl
@[simp] theorem updEntry_ntu (e : EntryNo) (f : Entry → Entry) : (s.updEntry e f).ntu = s.ntu := rfl
@[simp] theorem updEntry_mga (e : EntryNo) (f : Entry → Entry) : (s.updEntry e f).mga = s.mga := rfl
@[simp] theorem updEntry_counters (e : EntryNo) (f : Entry → Entry) : (s.updEntry e f).counters = s.counters := rfl
@[simp] theorem updEntry_upRx (e : EntryNo) (f : Entry → Entry) : (s.updEntry e f).upRx = s.upRx := rfl
@[simp] theorem updEntry_resetAsserted (e : EntryNo) (f : Entry → Entry) : (s.updEntry e f).resetAsserted = s.resetAsserted := rfl
@[simp] theorem updEntry_freeIndex (e : EntryNo) (f : Entry → Entry) : (s.updEntry e f).freeIndex = s.freeIndex := rfl
@[simp] theorem updEntry_pending (e : EntryNo) (f : Entry → Entry) : (s.updEntry e f).pending = s.pending := rfl
@[simp] theorem updEntry_slot (e : EntryNo) (f : Entry → Entry) (t : Tag) : (s.updEntry e f).slot t = s.slot t := rfl
@[simp] theorem updEntry_record (e : EntryNo) (f : Entry → Entry) (n : RecordNo) : (s.updEntry e f).record n = s.record n := rfl
@[simp] theorem updEntry_station (e : EntryNo) (f : Entry → Entry) (n : StationNo) : (s.updEntry e f).station n = s.station n := rfl
@[simp] theorem updEntry_seg (e : EntryNo) (f : Entry → Entry) (y : Seg) : (s.updEntry e f).seg y = s.seg y := by cases y <;> rfl
@[simp] theorem updEntry_node (e : EntryNo) (f : Entry → Entry) (n : NodeNo) : (s.updEntry e f).node n = s.node n := rfl

/-! ### updRecord -/

@[simp] theorem updRecord_ort (r : RecordNo) (f : Record → Record) : (s.updRecord r f).ort = s.ort := rfl
@[simp] theorem updRecord_entries (r : RecordNo) (f : Record → Record) : (s.updRecord r f).entries = s.entries := rfl
@[simp] theorem updRecord_segA (r : RecordNo) (f : Record → Record) : (s.updRecord r f).segA = s.segA := rfl
@[simp] theorem updRecord_segB (r : RecordNo) (f : Record → Record) : (s.updRecord r f).segB = s.segB := rfl
@[simp] theorem updRecord_stations (r : RecordNo) (f : Record → Record) : (s.updRecord r f).stations = s.stations := rfl
@[simp] theorem updRecord_rtp (r : RecordNo) (f : Record → Record) : (s.updRecord r f).rtp = s.rtp := rfl
@[simp] theorem updRecord_ntu (r : RecordNo) (f : Record → Record) : (s.updRecord r f).ntu = s.ntu := rfl
@[simp] theorem updRecord_mga (r : RecordNo) (f : Record → Record) : (s.updRecord r f).mga = s.mga := rfl
@[simp] theorem updRecord_counters (r : RecordNo) (f : Record → Record) : (s.updRecord r f).counters = s.counters := rfl
@[simp] theorem updRecord_upRx (r : RecordNo) (f : Record → Record) : (s.updRecord r f).upRx = s.upRx := rfl
@[simp] theorem updRecord_resetAsserted (r : RecordNo) (f : Record → Record) : (s.updRecord r f).resetAsserted = s.resetAsserted := rfl
@[simp] theorem updRecord_freeIndex (r : RecordNo) (f : Record → Record) : (s.updRecord r f).freeIndex = s.freeIndex := rfl
@[simp] theorem updRecord_pending (r : RecordNo) (f : Record → Record) : (s.updRecord r f).pending = s.pending := rfl
@[simp] theorem updRecord_slot (r : RecordNo) (f : Record → Record) (t : Tag) : (s.updRecord r f).slot t = s.slot t := rfl
@[simp] theorem updRecord_entry (r : RecordNo) (f : Record → Record) (n : EntryNo) : (s.updRecord r f).entry n = s.entry n := rfl
@[simp] theorem updRecord_station (r : RecordNo) (f : Record → Record) (n : StationNo) : (s.updRecord r f).station n = s.station n := rfl
@[simp] theorem updRecord_seg (r : RecordNo) (f : Record → Record) (y : Seg) : (s.updRecord r f).seg y = s.seg y := by cases y <;> rfl
@[simp] theorem updRecord_node (r : RecordNo) (f : Record → Record) (n : NodeNo) : (s.updRecord r f).node n = s.node n := rfl

/-! ### updStation -/

@[simp] theorem updStation_ort (i : StationNo) (f : StationRecord → StationRecord) : (s.updStation i f).ort = s.ort := rfl
@[simp] theorem updStation_entries (i : StationNo) (f : StationRecord → StationRecord) : (s.updStation i f).entries = s.entries := rfl
@[simp] theorem updStation_rst (i : StationNo) (f : StationRecord → StationRecord) : (s.updStation i f).rst = s.rst := rfl
@[simp] theorem updStation_segA (i : StationNo) (f : StationRecord → StationRecord) : (s.updStation i f).segA = s.segA := rfl
@[simp] theorem updStation_segB (i : StationNo) (f : StationRecord → StationRecord) : (s.updStation i f).segB = s.segB := rfl
@[simp] theorem updStation_rtp (i : StationNo) (f : StationRecord → StationRecord) : (s.updStation i f).rtp = s.rtp := rfl
@[simp] theorem updStation_ntu (i : StationNo) (f : StationRecord → StationRecord) : (s.updStation i f).ntu = s.ntu := rfl
@[simp] theorem updStation_mga (i : StationNo) (f : StationRecord → StationRecord) : (s.updStation i f).mga = s.mga := rfl
@[simp] theorem updStation_counters (i : StationNo) (f : StationRecord → StationRecord) : (s.updStation i f).counters = s.counters := rfl
@[simp] theorem updStation_upRx (i : StationNo) (f : StationRecord → StationRecord) : (s.updStation i f).upRx = s.upRx := rfl
@[simp] theorem updStation_resetAsserted (i : StationNo) (f : StationRecord → StationRecord) : (s.updStation i f).resetAsserted = s.resetAsserted := rfl
@[simp] theorem updStation_freeIndex (i : StationNo) (f : StationRecord → StationRecord) : (s.updStation i f).freeIndex = s.freeIndex := rfl
@[simp] theorem updStation_pending (i : StationNo) (f : StationRecord → StationRecord) : (s.updStation i f).pending = s.pending := rfl
@[simp] theorem updStation_slot (i : StationNo) (f : StationRecord → StationRecord) (t : Tag) : (s.updStation i f).slot t = s.slot t := rfl
@[simp] theorem updStation_entry (i : StationNo) (f : StationRecord → StationRecord) (n : EntryNo) : (s.updStation i f).entry n = s.entry n := rfl
@[simp] theorem updStation_record (i : StationNo) (f : StationRecord → StationRecord) (n : RecordNo) : (s.updStation i f).record n = s.record n := rfl
@[simp] theorem updStation_seg (i : StationNo) (f : StationRecord → StationRecord) (y : Seg) : (s.updStation i f).seg y = s.seg y := by cases y <;> rfl
@[simp] theorem updStation_node (i : StationNo) (f : StationRecord → StationRecord) (n : NodeNo) : (s.updStation i f).node n = s.node n := rfl

/-! ### updSeg -/

@[simp] theorem updSeg_ort (x : Seg) (f : Segment → Segment) : (s.updSeg x f).ort = s.ort := by cases x <;> rfl
@[simp] theorem updSeg_entries (x : Seg) (f : Segment → Segment) : (s.updSeg x f).entries = s.entries := by cases x <;> rfl
@[simp] theorem updSeg_rst (x : Seg) (f : Segment → Segment) : (s.updSeg x f).rst = s.rst := by cases x <;> rfl
@[simp] theorem updSeg_stations (x : Seg) (f : Segment → Segment) : (s.updSeg x f).stations = s.stations := by cases x <;> rfl
@[simp] theorem updSeg_rtp (x : Seg) (f : Segment → Segment) : (s.updSeg x f).rtp = s.rtp := by cases x <;> rfl
@[simp] theorem updSeg_ntu (x : Seg) (f : Segment → Segment) : (s.updSeg x f).ntu = s.ntu := by cases x <;> rfl
@[simp] theorem updSeg_mga (x : Seg) (f : Segment → Segment) : (s.updSeg x f).mga = s.mga := by cases x <;> rfl
@[simp] theorem updSeg_counters (x : Seg) (f : Segment → Segment) : (s.updSeg x f).counters = s.counters := by cases x <;> rfl
@[simp] theorem updSeg_upRx (x : Seg) (f : Segment → Segment) : (s.updSeg x f).upRx = s.upRx := by cases x <;> rfl
@[simp] theorem updSeg_resetAsserted (x : Seg) (f : Segment → Segment) : (s.updSeg x f).resetAsserted = s.resetAsserted := by cases x <;> rfl
@[simp] theorem updSeg_freeIndex (x : Seg) (f : Segment → Segment) : (s.updSeg x f).freeIndex = s.freeIndex := by cases x <;> rfl
@[simp] theorem updSeg_pending (x : Seg) (f : Segment → Segment) : (s.updSeg x f).pending = s.pending := by cases x <;> rfl
@[simp] theorem updSeg_slot (x : Seg) (f : Segment → Segment) (t : Tag) : (s.updSeg x f).slot t = s.slot t := by cases x <;> rfl
@[simp] theorem updSeg_entry (x : Seg) (f : Segment → Segment) (n : EntryNo) : (s.updSeg x f).entry n = s.entry n := by cases x <;> rfl
@[simp] theorem updSeg_record (x : Seg) (f : Segment → Segment) (n : RecordNo) : (s.updSeg x f).record n = s.record n := by cases x <;> rfl
@[simp] theorem updSeg_station (x : Seg) (f : Segment → Segment) (n : StationNo) : (s.updSeg x f).station n = s.station n := by cases x <;> rfl
@[simp] theorem updSeg_node (x : Seg) (f : Segment → Segment) (n : NodeNo) : (s.updSeg x f).node n = s.node n := by cases x <;> rfl

/-! ### updCounters -/

@[simp] theorem updCounters_ort (f : Counters → Counters) : (s.updCounters f).ort = s.ort := rfl
@[simp] theorem updCounters_entries (f : Counters → Counters) : (s.updCounters f).entries = s.entries := rfl
@[simp] theorem updCounters_rst (f : Counters → Counters) : (s.updCounters f).rst = s.rst := rfl
@[simp] theorem updCounters_segA (f : Counters → Counters) : (s.updCounters f).segA = s.segA := rfl
@[simp] theorem updCounters_segB (f : Counters → Counters) : (s.updCounters f).segB = s.segB := rfl
@[simp] theorem updCounters_stations (f : Counters → Counters) : (s.updCounters f).stations = s.stations := rfl
@[simp] theorem updCounters_rtp (f : Counters → Counters) : (s.updCounters f).rtp = s.rtp := rfl
@[simp] theorem updCounters_ntu (f : Counters → Counters) : (s.updCounters f).ntu = s.ntu := rfl
@[simp] theorem updCounters_mga (f : Counters → Counters) : (s.updCounters f).mga = s.mga := rfl
@[simp] theorem updCounters_upRx (f : Counters → Counters) : (s.updCounters f).upRx = s.upRx := rfl
@[simp] theorem updCounters_resetAsserted (f : Counters → Counters) : (s.updCounters f).resetAsserted = s.resetAsserted := rfl
@[simp] theorem updCounters_freeIndex (f : Counters → Counters) : (s.updCounters f).freeIndex = s.freeIndex := rfl
@[simp] theorem updCounters_pending (f : Counters → Counters) : (s.updCounters f).pending = s.pending := rfl
@[simp] theorem updCounters_slot (f : Counters → Counters) (t : Tag) : (s.updCounters f).slot t = s.slot t := rfl
@[simp] theorem updCounters_entry (f : Counters → Counters) (n : EntryNo) : (s.updCounters f).entry n = s.entry n := rfl
@[simp] theorem updCounters_record (f : Counters → Counters) (n : RecordNo) : (s.updCounters f).record n = s.record n := rfl
@[simp] theorem updCounters_station (f : Counters → Counters) (n : StationNo) : (s.updCounters f).station n = s.station n := rfl
@[simp] theorem updCounters_seg (f : Counters → Counters) (y : Seg) : (s.updCounters f).seg y = s.seg y := by cases y <;> rfl
@[simp] theorem updCounters_node (f : Counters → Counters) (n : NodeNo) : (s.updCounters f).node n = s.node n := rfl

/-! ### updAgent -/

@[simp] theorem updAgent_ort (f : Agent → Agent) : (s.updAgent f).ort = s.ort := rfl
@[simp] theorem updAgent_entries (f : Agent → Agent) : (s.updAgent f).entries = s.entries := rfl
@[simp] theorem updAgent_rst (f : Agent → Agent) : (s.updAgent f).rst = s.rst := rfl
@[simp] theorem updAgent_segA (f : Agent → Agent) : (s.updAgent f).segA = s.segA := rfl
@[simp] theorem updAgent_segB (f : Agent → Agent) : (s.updAgent f).segB = s.segB := rfl
@[simp] theorem updAgent_stations (f : Agent → Agent) : (s.updAgent f).stations = s.stations := rfl
@[simp] theorem updAgent_rtp (f : Agent → Agent) : (s.updAgent f).rtp = s.rtp := rfl
@[simp] theorem updAgent_ntu (f : Agent → Agent) : (s.updAgent f).ntu = s.ntu := rfl
@[simp] theorem updAgent_counters (f : Agent → Agent) : (s.updAgent f).counters = s.counters := rfl
@[simp] theorem updAgent_upRx (f : Agent → Agent) : (s.updAgent f).upRx = s.upRx := rfl
@[simp] theorem updAgent_resetAsserted (f : Agent → Agent) : (s.updAgent f).resetAsserted = s.resetAsserted := rfl
@[simp] theorem updAgent_freeIndex (f : Agent → Agent) : (s.updAgent f).freeIndex = s.freeIndex := rfl
@[simp] theorem updAgent_pending (f : Agent → Agent) : (s.updAgent f).pending = s.pending := rfl
@[simp] theorem updAgent_slot (f : Agent → Agent) (t : Tag) : (s.updAgent f).slot t = s.slot t := rfl
@[simp] theorem updAgent_entry (f : Agent → Agent) (n : EntryNo) : (s.updAgent f).entry n = s.entry n := rfl
@[simp] theorem updAgent_record (f : Agent → Agent) (n : RecordNo) : (s.updAgent f).record n = s.record n := rfl
@[simp] theorem updAgent_station (f : Agent → Agent) (n : StationNo) : (s.updAgent f).station n = s.station n := rfl
@[simp] theorem updAgent_seg (f : Agent → Agent) (y : Seg) : (s.updAgent f).seg y = s.seg y := by cases y <;> rfl
@[simp] theorem updAgent_node (f : Agent → Agent) (n : NodeNo) : (s.updAgent f).node n = s.node n := rfl

/-! ### updReturn -/

@[simp] theorem updReturn_ort (f : ReturnPath → ReturnPath) : (s.updReturn f).ort = s.ort := rfl
@[simp] theorem updReturn_entries (f : ReturnPath → ReturnPath) : (s.updReturn f).entries = s.entries := rfl
@[simp] theorem updReturn_rst (f : ReturnPath → ReturnPath) : (s.updReturn f).rst = s.rst := rfl
@[simp] theorem updReturn_segA (f : ReturnPath → ReturnPath) : (s.updReturn f).segA = s.segA := rfl
@[simp] theorem updReturn_segB (f : ReturnPath → ReturnPath) : (s.updReturn f).segB = s.segB := rfl
@[simp] theorem updReturn_stations (f : ReturnPath → ReturnPath) : (s.updReturn f).stations = s.stations := rfl
@[simp] theorem updReturn_ntu (f : ReturnPath → ReturnPath) : (s.updReturn f).ntu = s.ntu := rfl
@[simp] theorem updReturn_mga (f : ReturnPath → ReturnPath) : (s.updReturn f).mga = s.mga := rfl
@[simp] theorem updReturn_counters (f : ReturnPath → ReturnPath) : (s.updReturn f).counters = s.counters := rfl
@[simp] theorem updReturn_upRx (f : ReturnPath → ReturnPath) : (s.updReturn f).upRx = s.upRx := rfl
@[simp] theorem updReturn_resetAsserted (f : ReturnPath → ReturnPath) : (s.updReturn f).resetAsserted = s.resetAsserted := rfl
@[simp] theorem updReturn_freeIndex (f : ReturnPath → ReturnPath) : (s.updReturn f).freeIndex = s.freeIndex := rfl
@[simp] theorem updReturn_pending (f : ReturnPath → ReturnPath) : (s.updReturn f).pending = s.pending := rfl
@[simp] theorem updReturn_slot (f : ReturnPath → ReturnPath) (t : Tag) : (s.updReturn f).slot t = s.slot t := rfl
@[simp] theorem updReturn_entry (f : ReturnPath → ReturnPath) (n : EntryNo) : (s.updReturn f).entry n = s.entry n := rfl
@[simp] theorem updReturn_record (f : ReturnPath → ReturnPath) (n : RecordNo) : (s.updReturn f).record n = s.record n := rfl
@[simp] theorem updReturn_station (f : ReturnPath → ReturnPath) (n : StationNo) : (s.updReturn f).station n = s.station n := rfl
@[simp] theorem updReturn_seg (f : ReturnPath → ReturnPath) (y : Seg) : (s.updReturn f).seg y = s.seg y := by cases y <;> rfl
@[simp] theorem updReturn_node (f : ReturnPath → ReturnPath) (n : NodeNo) : (s.updReturn f).node n = s.node n := rfl

/-! ### updNotices -/

@[simp] theorem updNotices_ort (f : NoticeUnit → NoticeUnit) : (s.updNotices f).ort = s.ort := rfl
@[simp] theorem updNotices_entries (f : NoticeUnit → NoticeUnit) : (s.updNotices f).entries = s.entries := rfl
@[simp] theorem updNotices_rst (f : NoticeUnit → NoticeUnit) : (s.updNotices f).rst = s.rst := rfl
@[simp] theorem updNotices_segA (f : NoticeUnit → NoticeUnit) : (s.updNotices f).segA = s.segA := rfl
@[simp] theorem updNotices_segB (f : NoticeUnit → NoticeUnit) : (s.updNotices f).segB = s.segB := rfl
@[simp] theorem updNotices_stations (f : NoticeUnit → NoticeUnit) : (s.updNotices f).stations = s.stations := rfl
@[simp] theorem updNotices_rtp (f : NoticeUnit → NoticeUnit) : (s.updNotices f).rtp = s.rtp := rfl
@[simp] theorem updNotices_mga (f : NoticeUnit → NoticeUnit) : (s.updNotices f).mga = s.mga := rfl
@[simp] theorem updNotices_counters (f : NoticeUnit → NoticeUnit) : (s.updNotices f).counters = s.counters := rfl
@[simp] theorem updNotices_upRx (f : NoticeUnit → NoticeUnit) : (s.updNotices f).upRx = s.upRx := rfl
@[simp] theorem updNotices_resetAsserted (f : NoticeUnit → NoticeUnit) : (s.updNotices f).resetAsserted = s.resetAsserted := rfl
@[simp] theorem updNotices_freeIndex (f : NoticeUnit → NoticeUnit) : (s.updNotices f).freeIndex = s.freeIndex := rfl
@[simp] theorem updNotices_pending (f : NoticeUnit → NoticeUnit) : (s.updNotices f).pending = s.pending := rfl
@[simp] theorem updNotices_slot (f : NoticeUnit → NoticeUnit) (t : Tag) : (s.updNotices f).slot t = s.slot t := rfl
@[simp] theorem updNotices_entry (f : NoticeUnit → NoticeUnit) (n : EntryNo) : (s.updNotices f).entry n = s.entry n := rfl
@[simp] theorem updNotices_record (f : NoticeUnit → NoticeUnit) (n : RecordNo) : (s.updNotices f).record n = s.record n := rfl
@[simp] theorem updNotices_station (f : NoticeUnit → NoticeUnit) (n : StationNo) : (s.updNotices f).station n = s.station n := rfl
@[simp] theorem updNotices_seg (f : NoticeUnit → NoticeUnit) (y : Seg) : (s.updNotices f).seg y = s.seg y := by cases y <;> rfl

/-! ### raise -/

@[simp] theorem raise_ort (k : NodeNo) (d : Half) : (s.raise k d).ort = s.ort := rfl
@[simp] theorem raise_entries (k : NodeNo) (d : Half) : (s.raise k d).entries = s.entries := rfl
@[simp] theorem raise_rst (k : NodeNo) (d : Half) : (s.raise k d).rst = s.rst := rfl
@[simp] theorem raise_segA (k : NodeNo) (d : Half) : (s.raise k d).segA = s.segA := rfl
@[simp] theorem raise_segB (k : NodeNo) (d : Half) : (s.raise k d).segB = s.segB := rfl
@[simp] theorem raise_stations (k : NodeNo) (d : Half) : (s.raise k d).stations = s.stations := rfl
@[simp] theorem raise_rtp (k : NodeNo) (d : Half) : (s.raise k d).rtp = s.rtp := rfl
@[simp] theorem raise_mga (k : NodeNo) (d : Half) : (s.raise k d).mga = s.mga := rfl
@[simp] theorem raise_counters (k : NodeNo) (d : Half) : (s.raise k d).counters = s.counters := rfl
@[simp] theorem raise_upRx (k : NodeNo) (d : Half) : (s.raise k d).upRx = s.upRx := rfl
@[simp] theorem raise_resetAsserted (k : NodeNo) (d : Half) : (s.raise k d).resetAsserted = s.resetAsserted := rfl
@[simp] theorem raise_freeIndex (k : NodeNo) (d : Half) : (s.raise k d).freeIndex = s.freeIndex := rfl
@[simp] theorem raise_pending (k : NodeNo) (d : Half) : (s.raise k d).pending = s.pending := rfl
@[simp] theorem raise_slot (k : NodeNo) (d : Half) (t : Tag) : (s.raise k d).slot t = s.slot t := rfl
@[simp] theorem raise_entry (k : NodeNo) (d : Half) (n : EntryNo) : (s.raise k d).entry n = s.entry n := rfl
@[simp] theorem raise_record (k : NodeNo) (d : Half) (n : RecordNo) : (s.raise k d).record n = s.record n := rfl
@[simp] theorem raise_station (k : NodeNo) (d : Half) (n : StationNo) : (s.raise k d).station n = s.station n := rfl
@[simp] theorem raise_seg (k : NodeNo) (d : Half) (y : Seg) : (s.raise k d).seg y = s.seg y := by cases y <;> rfl

/-! ### writeFrameBuffer -/

@[simp] theorem writeFrameBuffer_entries (k : Fin 24) (bs : List Byte) : (s.writeFrameBuffer k bs).entries = s.entries := rfl
@[simp] theorem writeFrameBuffer_rst (k : Fin 24) (bs : List Byte) : (s.writeFrameBuffer k bs).rst = s.rst := rfl
@[simp] theorem writeFrameBuffer_segA (k : Fin 24) (bs : List Byte) : (s.writeFrameBuffer k bs).segA = s.segA := rfl
@[simp] theorem writeFrameBuffer_segB (k : Fin 24) (bs : List Byte) : (s.writeFrameBuffer k bs).segB = s.segB := rfl
@[simp] theorem writeFrameBuffer_stations (k : Fin 24) (bs : List Byte) : (s.writeFrameBuffer k bs).stations = s.stations := rfl
@[simp] theorem writeFrameBuffer_rtp (k : Fin 24) (bs : List Byte) : (s.writeFrameBuffer k bs).rtp = s.rtp := rfl
@[simp] theorem writeFrameBuffer_ntu (k : Fin 24) (bs : List Byte) : (s.writeFrameBuffer k bs).ntu = s.ntu := rfl
@[simp] theorem writeFrameBuffer_mga (k : Fin 24) (bs : List Byte) : (s.writeFrameBuffer k bs).mga = s.mga := rfl
@[simp] theorem writeFrameBuffer_counters (k : Fin 24) (bs : List Byte) : (s.writeFrameBuffer k bs).counters = s.counters := rfl
@[simp] theorem writeFrameBuffer_upRx (k : Fin 24) (bs : List Byte) : (s.writeFrameBuffer k bs).upRx = s.upRx := rfl
@[simp] theorem writeFrameBuffer_resetAsserted (k : Fin 24) (bs : List Byte) : (s.writeFrameBuffer k bs).resetAsserted = s.resetAsserted := rfl
@[simp] theorem writeFrameBuffer_freeIndex (k : Fin 24) (bs : List Byte) : (s.writeFrameBuffer k bs).freeIndex = s.freeIndex := rfl
@[simp] theorem writeFrameBuffer_pending (k : Fin 24) (bs : List Byte) : (s.writeFrameBuffer k bs).pending = s.pending := rfl
@[simp] theorem writeFrameBuffer_slot (k : Fin 24) (bs : List Byte) (t : Tag) : (s.writeFrameBuffer k bs).slot t = s.slot t := rfl
@[simp] theorem writeFrameBuffer_entry (k : Fin 24) (bs : List Byte) (n : EntryNo) : (s.writeFrameBuffer k bs).entry n = s.entry n := rfl
@[simp] theorem writeFrameBuffer_record (k : Fin 24) (bs : List Byte) (n : RecordNo) : (s.writeFrameBuffer k bs).record n = s.record n := rfl
@[simp] theorem writeFrameBuffer_station (k : Fin 24) (bs : List Byte) (n : StationNo) : (s.writeFrameBuffer k bs).station n = s.station n := rfl
@[simp] theorem writeFrameBuffer_seg (k : Fin 24) (bs : List Byte) (y : Seg) : (s.writeFrameBuffer k bs).seg y = s.seg y := by cases y <;> rfl
@[simp] theorem writeFrameBuffer_node (k : Fin 24) (bs : List Byte) (n : NodeNo) : (s.writeFrameBuffer k bs).node n = s.node n := rfl

/-! ### writeMgmtBuffer -/

@[simp] theorem writeMgmtBuffer_entries (k : Fin 4) (bs : List Byte) : (s.writeMgmtBuffer k bs).entries = s.entries := rfl
@[simp] theorem writeMgmtBuffer_rst (k : Fin 4) (bs : List Byte) : (s.writeMgmtBuffer k bs).rst = s.rst := rfl
@[simp] theorem writeMgmtBuffer_segA (k : Fin 4) (bs : List Byte) : (s.writeMgmtBuffer k bs).segA = s.segA := rfl
@[simp] theorem writeMgmtBuffer_segB (k : Fin 4) (bs : List Byte) : (s.writeMgmtBuffer k bs).segB = s.segB := rfl
@[simp] theorem writeMgmtBuffer_stations (k : Fin 4) (bs : List Byte) : (s.writeMgmtBuffer k bs).stations = s.stations := rfl
@[simp] theorem writeMgmtBuffer_rtp (k : Fin 4) (bs : List Byte) : (s.writeMgmtBuffer k bs).rtp = s.rtp := rfl
@[simp] theorem writeMgmtBuffer_ntu (k : Fin 4) (bs : List Byte) : (s.writeMgmtBuffer k bs).ntu = s.ntu := rfl
@[simp] theorem writeMgmtBuffer_mga (k : Fin 4) (bs : List Byte) : (s.writeMgmtBuffer k bs).mga = s.mga := rfl
@[simp] theorem writeMgmtBuffer_counters (k : Fin 4) (bs : List Byte) : (s.writeMgmtBuffer k bs).counters = s.counters := rfl
@[simp] theorem writeMgmtBuffer_upRx (k : Fin 4) (bs : List Byte) : (s.writeMgmtBuffer k bs).upRx = s.upRx := rfl
@[simp] theorem writeMgmtBuffer_resetAsserted (k : Fin 4) (bs : List Byte) : (s.writeMgmtBuffer k bs).resetAsserted = s.resetAsserted := rfl
@[simp] theorem writeMgmtBuffer_freeIndex (k : Fin 4) (bs : List Byte) : (s.writeMgmtBuffer k bs).freeIndex = s.freeIndex := rfl
@[simp] theorem writeMgmtBuffer_pending (k : Fin 4) (bs : List Byte) : (s.writeMgmtBuffer k bs).pending = s.pending := rfl
@[simp] theorem writeMgmtBuffer_slot (k : Fin 4) (bs : List Byte) (t : Tag) : (s.writeMgmtBuffer k bs).slot t = s.slot t := rfl
@[simp] theorem writeMgmtBuffer_entry (k : Fin 4) (bs : List Byte) (n : EntryNo) : (s.writeMgmtBuffer k bs).entry n = s.entry n := rfl
@[simp] theorem writeMgmtBuffer_record (k : Fin 4) (bs : List Byte) (n : RecordNo) : (s.writeMgmtBuffer k bs).record n = s.record n := rfl
@[simp] theorem writeMgmtBuffer_station (k : Fin 4) (bs : List Byte) (n : StationNo) : (s.writeMgmtBuffer k bs).station n = s.station n := rfl
@[simp] theorem writeMgmtBuffer_seg (k : Fin 4) (bs : List Byte) (y : Seg) : (s.writeMgmtBuffer k bs).seg y = s.seg y := by cases y <;> rfl
@[simp] theorem writeMgmtBuffer_node (k : Fin 4) (bs : List Byte) (n : NodeNo) : (s.writeMgmtBuffer k bs).node n = s.node n := rfl

/-! ### writeStore -/

@[simp] theorem writeStore_ort (a : Nat) (bs : List Byte) : (s.writeStore a bs).ort = s.ort := rfl
@[simp] theorem writeStore_entries (a : Nat) (bs : List Byte) : (s.writeStore a bs).entries = s.entries := rfl
@[simp] theorem writeStore_segA (a : Nat) (bs : List Byte) : (s.writeStore a bs).segA = s.segA := rfl
@[simp] theorem writeStore_segB (a : Nat) (bs : List Byte) : (s.writeStore a bs).segB = s.segB := rfl
@[simp] theorem writeStore_stations (a : Nat) (bs : List Byte) : (s.writeStore a bs).stations = s.stations := rfl
@[simp] theorem writeStore_rtp (a : Nat) (bs : List Byte) : (s.writeStore a bs).rtp = s.rtp := rfl
@[simp] theorem writeStore_ntu (a : Nat) (bs : List Byte) : (s.writeStore a bs).ntu = s.ntu := rfl
@[simp] theorem writeStore_mga (a : Nat) (bs : List Byte) : (s.writeStore a bs).mga = s.mga := rfl
@[simp] theorem writeStore_counters (a : Nat) (bs : List Byte) : (s.writeStore a bs).counters = s.counters := rfl
@[simp] theorem writeStore_upRx (a : Nat) (bs : List Byte) : (s.writeStore a bs).upRx = s.upRx := rfl
@[simp] theorem writeStore_resetAsserted (a : Nat) (bs : List Byte) : (s.writeStore a bs).resetAsserted = s.resetAsserted := rfl
@[simp] theorem writeStore_freeIndex (a : Nat) (bs : List Byte) : (s.writeStore a bs).freeIndex = s.freeIndex := rfl
@[simp] theorem writeStore_pending (a : Nat) (bs : List Byte) : (s.writeStore a bs).pending = s.pending := rfl
@[simp] theorem writeStore_slot (a : Nat) (bs : List Byte) (t : Tag) : (s.writeStore a bs).slot t = s.slot t := rfl
@[simp] theorem writeStore_entry (a : Nat) (bs : List Byte) (n : EntryNo) : (s.writeStore a bs).entry n = s.entry n := rfl
@[simp] theorem writeStore_record (a : Nat) (bs : List Byte) (n : RecordNo) : (s.writeStore a bs).record n = s.record n := rfl
@[simp] theorem writeStore_station (a : Nat) (bs : List Byte) (n : StationNo) : (s.writeStore a bs).station n = s.station n := rfl
@[simp] theorem writeStore_seg (a : Nat) (bs : List Byte) (y : Seg) : (s.writeStore a bs).seg y = s.seg y := by cases y <;> rfl
@[simp] theorem writeStore_node (a : Nat) (bs : List Byte) (n : NodeNo) : (s.writeStore a bs).node n = s.node n := rfl

/-! ### occupy -/

@[simp] theorem occupy_entries (q : Request) (o : Origin) (e : Option EntryNo) : (s.occupy q o e).entries = s.entries := rfl
@[simp] theorem occupy_rst (q : Request) (o : Origin) (e : Option EntryNo) : (s.occupy q o e).rst = s.rst := rfl
@[simp] theorem occupy_segA (q : Request) (o : Origin) (e : Option EntryNo) : (s.occupy q o e).segA = s.segA := rfl
@[simp] theorem occupy_segB (q : Request) (o : Origin) (e : Option EntryNo) : (s.occupy q o e).segB = s.segB := rfl
@[simp] theorem occupy_stations (q : Request) (o : Origin) (e : Option EntryNo) : (s.occupy q o e).stations = s.stations := rfl
@[simp] theorem occupy_rtp (q : Request) (o : Origin) (e : Option EntryNo) : (s.occupy q o e).rtp = s.rtp := rfl
@[simp] theorem occupy_ntu (q : Request) (o : Origin) (e : Option EntryNo) : (s.occupy q o e).ntu = s.ntu := rfl
@[simp] theorem occupy_mga (q : Request) (o : Origin) (e : Option EntryNo) : (s.occupy q o e).mga = s.mga := rfl
@[simp] theorem occupy_counters (q : Request) (o : Origin) (e : Option EntryNo) : (s.occupy q o e).counters = s.counters := rfl
@[simp] theorem occupy_upRx (q : Request) (o : Origin) (e : Option EntryNo) : (s.occupy q o e).upRx = s.upRx := rfl
@[simp] theorem occupy_resetAsserted (q : Request) (o : Origin) (e : Option EntryNo) : (s.occupy q o e).resetAsserted = s.resetAsserted := rfl
@[simp] theorem occupy_freeIndex (q : Request) (o : Origin) (e : Option EntryNo) : (s.occupy q o e).freeIndex = s.freeIndex := rfl
@[simp] theorem occupy_pending (q : Request) (o : Origin) (e : Option EntryNo) : (s.occupy q o e).pending = s.pending := rfl
@[simp] theorem occupy_entry (q : Request) (o : Origin) (e : Option EntryNo) (n : EntryNo) : (s.occupy q o e).entry n = s.entry n := rfl
@[simp] theorem occupy_record (q : Request) (o : Origin) (e : Option EntryNo) (n : RecordNo) : (s.occupy q o e).record n = s.record n := rfl
@[simp] theorem occupy_station (q : Request) (o : Origin) (e : Option EntryNo) (n : StationNo) : (s.occupy q o e).station n = s.station n := rfl
@[simp] theorem occupy_seg (q : Request) (o : Origin) (e : Option EntryNo) (y : Seg) : (s.occupy q o e).seg y = s.seg y := by cases y <;> rfl
@[simp] theorem occupy_node (q : Request) (o : Origin) (e : Option EntryNo) (n : NodeNo) : (s.occupy q o e).node n = s.node n := rfl

/-! ### respond -/

@[simp] theorem respond_entries (u : Tag) (st : Status) (rs : Reason) (src : PayloadSource) : (s.respond u st rs src).entries = s.entries := rfl
@[simp] theorem respond_rst (u : Tag) (st : Status) (rs : Reason) (src : PayloadSource) : (s.respond u st rs src).rst = s.rst := rfl
@[simp] theorem respond_segA (u : Tag) (st : Status) (rs : Reason) (src : PayloadSource) : (s.respond u st rs src).segA = s.segA := rfl
@[simp] theorem respond_segB (u : Tag) (st : Status) (rs : Reason) (src : PayloadSource) : (s.respond u st rs src).segB = s.segB := rfl
@[simp] theorem respond_stations (u : Tag) (st : Status) (rs : Reason) (src : PayloadSource) : (s.respond u st rs src).stations = s.stations := rfl
@[simp] theorem respond_ntu (u : Tag) (st : Status) (rs : Reason) (src : PayloadSource) : (s.respond u st rs src).ntu = s.ntu := rfl
@[simp] theorem respond_mga (u : Tag) (st : Status) (rs : Reason) (src : PayloadSource) : (s.respond u st rs src).mga = s.mga := rfl
@[simp] theorem respond_counters (u : Tag) (st : Status) (rs : Reason) (src : PayloadSource) : (s.respond u st rs src).counters = s.counters := rfl
@[simp] theorem respond_upRx (u : Tag) (st : Status) (rs : Reason) (src : PayloadSource) : (s.respond u st rs src).upRx = s.upRx := rfl
@[simp] theorem respond_resetAsserted (u : Tag) (st : Status) (rs : Reason) (src : PayloadSource) : (s.respond u st rs src).resetAsserted = s.resetAsserted := rfl
@[simp] theorem respond_freeIndex (u : Tag) (st : Status) (rs : Reason) (src : PayloadSource) : (s.respond u st rs src).freeIndex = s.freeIndex := rfl
@[simp] theorem respond_pending (u : Tag) (st : Status) (rs : Reason) (src : PayloadSource) : (s.respond u st rs src).pending = s.pending := rfl
@[simp] theorem respond_entry (u : Tag) (st : Status) (rs : Reason) (src : PayloadSource) (n : EntryNo) : (s.respond u st rs src).entry n = s.entry n := rfl
@[simp] theorem respond_record (u : Tag) (st : Status) (rs : Reason) (src : PayloadSource) (n : RecordNo) : (s.respond u st rs src).record n = s.record n := rfl
@[simp] theorem respond_station (u : Tag) (st : Status) (rs : Reason) (src : PayloadSource) (n : StationNo) : (s.respond u st rs src).station n = s.station n := rfl
@[simp] theorem respond_seg (u : Tag) (st : Status) (rs : Reason) (src : PayloadSource) (y : Seg) : (s.respond u st rs src).seg y = s.seg y := by cases y <;> rfl
@[simp] theorem respond_node (u : Tag) (st : Status) (rs : Reason) (src : PayloadSource) (n : NodeNo) : (s.respond u st rs src).node n = s.node n := rfl

/-! ### endWait -/

@[simp] theorem endWait_entries (u : Tag) (st : Status) (rs : Reason) : (s.endWait u st rs).entries = s.entries := rfl
@[simp] theorem endWait_rst (u : Tag) (st : Status) (rs : Reason) : (s.endWait u st rs).rst = s.rst := rfl
@[simp] theorem endWait_segA (u : Tag) (st : Status) (rs : Reason) : (s.endWait u st rs).segA = s.segA := rfl
@[simp] theorem endWait_segB (u : Tag) (st : Status) (rs : Reason) : (s.endWait u st rs).segB = s.segB := rfl
@[simp] theorem endWait_stations (u : Tag) (st : Status) (rs : Reason) : (s.endWait u st rs).stations = s.stations := rfl
@[simp] theorem endWait_ntu (u : Tag) (st : Status) (rs : Reason) : (s.endWait u st rs).ntu = s.ntu := rfl
@[simp] theorem endWait_counters (u : Tag) (st : Status) (rs : Reason) : (s.endWait u st rs).counters = s.counters := rfl
@[simp] theorem endWait_upRx (u : Tag) (st : Status) (rs : Reason) : (s.endWait u st rs).upRx = s.upRx := rfl
@[simp] theorem endWait_resetAsserted (u : Tag) (st : Status) (rs : Reason) : (s.endWait u st rs).resetAsserted = s.resetAsserted := rfl
@[simp] theorem endWait_freeIndex (u : Tag) (st : Status) (rs : Reason) : (s.endWait u st rs).freeIndex = s.freeIndex := rfl
@[simp] theorem endWait_pending (u : Tag) (st : Status) (rs : Reason) : (s.endWait u st rs).pending = s.pending := rfl
@[simp] theorem endWait_entry (u : Tag) (st : Status) (rs : Reason) (n : EntryNo) : (s.endWait u st rs).entry n = s.entry n := rfl
@[simp] theorem endWait_record (u : Tag) (st : Status) (rs : Reason) (n : RecordNo) : (s.endWait u st rs).record n = s.record n := rfl
@[simp] theorem endWait_station (u : Tag) (st : Status) (rs : Reason) (n : StationNo) : (s.endWait u st rs).station n = s.station n := rfl
@[simp] theorem endWait_seg (u : Tag) (st : Status) (rs : Reason) (y : Seg) : (s.endWait u st rs).seg y = s.seg y := by cases y <;> rfl
@[simp] theorem endWait_node (u : Tag) (st : Status) (rs : Reason) (n : NodeNo) : (s.endWait u st rs).node n = s.node n := rfl

/-! ### beginWait -/

@[simp] theorem beginWait_entries (u : Tag) (c : WaitingCommand) : (s.beginWait u c).entries = s.entries := rfl
@[simp] theorem beginWait_rst (u : Tag) (c : WaitingCommand) : (s.beginWait u c).rst = s.rst := rfl
@[simp] theorem beginWait_segA (u : Tag) (c : WaitingCommand) : (s.beginWait u c).segA = s.segA := rfl
@[simp] theorem beginWait_segB (u : Tag) (c : WaitingCommand) : (s.beginWait u c).segB = s.segB := rfl
@[simp] theorem beginWait_stations (u : Tag) (c : WaitingCommand) : (s.beginWait u c).stations = s.stations := rfl
@[simp] theorem beginWait_rtp (u : Tag) (c : WaitingCommand) : (s.beginWait u c).rtp = s.rtp := rfl
@[simp] theorem beginWait_ntu (u : Tag) (c : WaitingCommand) : (s.beginWait u c).ntu = s.ntu := rfl
@[simp] theorem beginWait_counters (u : Tag) (c : WaitingCommand) : (s.beginWait u c).counters = s.counters := rfl
@[simp] theorem beginWait_upRx (u : Tag) (c : WaitingCommand) : (s.beginWait u c).upRx = s.upRx := rfl
@[simp] theorem beginWait_resetAsserted (u : Tag) (c : WaitingCommand) : (s.beginWait u c).resetAsserted = s.resetAsserted := rfl
@[simp] theorem beginWait_freeIndex (u : Tag) (c : WaitingCommand) : (s.beginWait u c).freeIndex = s.freeIndex := rfl
@[simp] theorem beginWait_pending (u : Tag) (c : WaitingCommand) : (s.beginWait u c).pending = s.pending := rfl
@[simp] theorem beginWait_entry (u : Tag) (c : WaitingCommand) (n : EntryNo) : (s.beginWait u c).entry n = s.entry n := rfl
@[simp] theorem beginWait_record (u : Tag) (c : WaitingCommand) (n : RecordNo) : (s.beginWait u c).record n = s.record n := rfl
@[simp] theorem beginWait_station (u : Tag) (c : WaitingCommand) (n : StationNo) : (s.beginWait u c).station n = s.station n := rfl
@[simp] theorem beginWait_seg (u : Tag) (c : WaitingCommand) (y : Seg) : (s.beginWait u c).seg y = s.seg y := by cases y <;> rfl
@[simp] theorem beginWait_node (u : Tag) (c : WaitingCommand) (n : NodeNo) : (s.beginWait u c).node n = s.node n := rfl

/-! ### occupyMgmt -/

@[simp] theorem occupyMgmt_entries (q : Request) (k : Fin 4) : (s.occupyMgmt q k).entries = s.entries := rfl
@[simp] theorem occupyMgmt_rst (q : Request) (k : Fin 4) : (s.occupyMgmt q k).rst = s.rst := rfl
@[simp] theorem occupyMgmt_segA (q : Request) (k : Fin 4) : (s.occupyMgmt q k).segA = s.segA := rfl
@[simp] theorem occupyMgmt_segB (q : Request) (k : Fin 4) : (s.occupyMgmt q k).segB = s.segB := rfl
@[simp] theorem occupyMgmt_stations (q : Request) (k : Fin 4) : (s.occupyMgmt q k).stations = s.stations := rfl
@[simp] theorem occupyMgmt_rtp (q : Request) (k : Fin 4) : (s.occupyMgmt q k).rtp = s.rtp := rfl
@[simp] theorem occupyMgmt_ntu (q : Request) (k : Fin 4) : (s.occupyMgmt q k).ntu = s.ntu := rfl
@[simp] theorem occupyMgmt_mga (q : Request) (k : Fin 4) : (s.occupyMgmt q k).mga = s.mga := rfl
@[simp] theorem occupyMgmt_counters (q : Request) (k : Fin 4) : (s.occupyMgmt q k).counters = s.counters := rfl
@[simp] theorem occupyMgmt_upRx (q : Request) (k : Fin 4) : (s.occupyMgmt q k).upRx = s.upRx := rfl
@[simp] theorem occupyMgmt_resetAsserted (q : Request) (k : Fin 4) : (s.occupyMgmt q k).resetAsserted = s.resetAsserted := rfl
@[simp] theorem occupyMgmt_freeIndex (q : Request) (k : Fin 4) : (s.occupyMgmt q k).freeIndex = s.freeIndex := rfl
@[simp] theorem occupyMgmt_pending (q : Request) (k : Fin 4) : (s.occupyMgmt q k).pending = s.pending := rfl
@[simp] theorem occupyMgmt_entry (q : Request) (k : Fin 4) (n : EntryNo) : (s.occupyMgmt q k).entry n = s.entry n := rfl
@[simp] theorem occupyMgmt_record (q : Request) (k : Fin 4) (n : RecordNo) : (s.occupyMgmt q k).record n = s.record n := rfl
@[simp] theorem occupyMgmt_station (q : Request) (k : Fin 4) (n : StationNo) : (s.occupyMgmt q k).station n = s.station n := rfl
@[simp] theorem occupyMgmt_seg (q : Request) (k : Fin 4) (y : Seg) : (s.occupyMgmt q k).seg y = s.seg y := by cases y <;> rfl
@[simp] theorem occupyMgmt_node (q : Request) (k : Fin 4) (n : NodeNo) : (s.occupyMgmt q k).node n = s.node n := rfl

/-! ### occupyLocal -/

@[simp] theorem occupyLocal_entries (q : Request) (e : EntryNo) : (s.occupyLocal q e).entries = s.entries := rfl
@[simp] theorem occupyLocal_rst (q : Request) (e : EntryNo) : (s.occupyLocal q e).rst = s.rst := rfl
@[simp] theorem occupyLocal_segA (q : Request) (e : EntryNo) : (s.occupyLocal q e).segA = s.segA := rfl
@[simp] theorem occupyLocal_segB (q : Request) (e : EntryNo) : (s.occupyLocal q e).segB = s.segB := rfl
@[simp] theorem occupyLocal_stations (q : Request) (e : EntryNo) : (s.occupyLocal q e).stations = s.stations := rfl
@[simp] theorem occupyLocal_rtp (q : Request) (e : EntryNo) : (s.occupyLocal q e).rtp = s.rtp := rfl
@[simp] theorem occupyLocal_ntu (q : Request) (e : EntryNo) : (s.occupyLocal q e).ntu = s.ntu := rfl
@[simp] theorem occupyLocal_mga (q : Request) (e : EntryNo) : (s.occupyLocal q e).mga = s.mga := rfl
@[simp] theorem occupyLocal_counters (q : Request) (e : EntryNo) : (s.occupyLocal q e).counters = s.counters := rfl
@[simp] theorem occupyLocal_upRx (q : Request) (e : EntryNo) : (s.occupyLocal q e).upRx = s.upRx := rfl
@[simp] theorem occupyLocal_resetAsserted (q : Request) (e : EntryNo) : (s.occupyLocal q e).resetAsserted = s.resetAsserted := rfl
@[simp] theorem occupyLocal_freeIndex (q : Request) (e : EntryNo) : (s.occupyLocal q e).freeIndex = s.freeIndex := rfl
@[simp] theorem occupyLocal_pending (q : Request) (e : EntryNo) : (s.occupyLocal q e).pending = s.pending := rfl
@[simp] theorem occupyLocal_entry (q : Request) (e : EntryNo) (n : EntryNo) : (s.occupyLocal q e).entry n = s.entry n := rfl
@[simp] theorem occupyLocal_record (q : Request) (e : EntryNo) (n : RecordNo) : (s.occupyLocal q e).record n = s.record n := rfl
@[simp] theorem occupyLocal_station (q : Request) (e : EntryNo) (n : StationNo) : (s.occupyLocal q e).station n = s.station n := rfl
@[simp] theorem occupyLocal_seg (q : Request) (e : EntryNo) (y : Seg) : (s.occupyLocal q e).seg y = s.seg y := by cases y <;> rfl
@[simp] theorem occupyLocal_node (q : Request) (e : EntryNo) (n : NodeNo) : (s.occupyLocal q e).node n = s.node n := rfl

/-! ### countFrame -/

@[simp] theorem countFrame_ort : s.countFrame.ort = s.ort := rfl
@[simp] theorem countFrame_entries : s.countFrame.entries = s.entries := rfl
@[simp] theorem countFrame_rst : s.countFrame.rst = s.rst := rfl
@[simp] theorem countFrame_segA : s.countFrame.segA = s.segA := rfl
@[simp] theorem countFrame_segB : s.countFrame.segB = s.segB := rfl
@[simp] theorem countFrame_stations : s.countFrame.stations = s.stations := rfl
@[simp] theorem countFrame_rtp : s.countFrame.rtp = s.rtp := rfl
@[simp] theorem countFrame_ntu : s.countFrame.ntu = s.ntu := rfl
@[simp] theorem countFrame_mga : s.countFrame.mga = s.mga := rfl
@[simp] theorem countFrame_upRx : s.countFrame.upRx = s.upRx := rfl
@[simp] theorem countFrame_resetAsserted : s.countFrame.resetAsserted = s.resetAsserted := rfl
@[simp] theorem countFrame_freeIndex : s.countFrame.freeIndex = s.freeIndex := rfl
@[simp] theorem countFrame_pending : s.countFrame.pending = s.pending := rfl
@[simp] theorem countFrame_slot (t : Tag) : s.countFrame.slot t = s.slot t := rfl
@[simp] theorem countFrame_entry (n : EntryNo) : s.countFrame.entry n = s.entry n := rfl
@[simp] theorem countFrame_record (n : RecordNo) : s.countFrame.record n = s.record n := rfl
@[simp] theorem countFrame_station (n : StationNo) : s.countFrame.station n = s.station n := rfl
@[simp] theorem countFrame_seg (y : Seg) : s.countFrame.seg y = s.seg y := by cases y <;> rfl
@[simp] theorem countFrame_node (n : NodeNo) : s.countFrame.node n = s.node n := rfl

/-! ### countResponse -/

@[simp] theorem countResponse_ort : s.countResponse.ort = s.ort := rfl
@[simp] theorem countResponse_entries : s.countResponse.entries = s.entries := rfl
@[simp] theorem countResponse_rst : s.countResponse.rst = s.rst := rfl
@[simp] theorem countResponse_segA : s.countResponse.segA = s.segA := rfl
@[simp] theorem countResponse_segB : s.countResponse.segB = s.segB := rfl
@[simp] theorem countResponse_stations : s.countResponse.stations = s.stations := rfl
@[simp] theorem countResponse_rtp : s.countResponse.rtp = s.rtp := rfl
@[simp] theorem countResponse_ntu : s.countResponse.ntu = s.ntu := rfl
@[simp] theorem countResponse_mga : s.countResponse.mga = s.mga := rfl
@[simp] theorem countResponse_upRx : s.countResponse.upRx = s.upRx := rfl
@[simp] theorem countResponse_resetAsserted : s.countResponse.resetAsserted = s.resetAsserted := rfl
@[simp] theorem countResponse_freeIndex : s.countResponse.freeIndex = s.freeIndex := rfl
@[simp] theorem countResponse_pending : s.countResponse.pending = s.pending := rfl
@[simp] theorem countResponse_slot (t : Tag) : s.countResponse.slot t = s.slot t := rfl
@[simp] theorem countResponse_entry (n : EntryNo) : s.countResponse.entry n = s.entry n := rfl
@[simp] theorem countResponse_record (n : RecordNo) : s.countResponse.record n = s.record n := rfl
@[simp] theorem countResponse_station (n : StationNo) : s.countResponse.station n = s.station n := rfl
@[simp] theorem countResponse_seg (y : Seg) : s.countResponse.seg y = s.seg y := by cases y <;> rfl
@[simp] theorem countResponse_node (n : NodeNo) : s.countResponse.node n = s.node n := rfl

/-! ### readyRx -/

@[simp] theorem readyRx_ort : s.readyRx.ort = s.ort := rfl
@[simp] theorem readyRx_entries : s.readyRx.entries = s.entries := rfl
@[simp] theorem readyRx_rst : s.readyRx.rst = s.rst := rfl
@[simp] theorem readyRx_segA : s.readyRx.segA = s.segA := rfl
@[simp] theorem readyRx_segB : s.readyRx.segB = s.segB := rfl
@[simp] theorem readyRx_stations : s.readyRx.stations = s.stations := rfl
@[simp] theorem readyRx_rtp : s.readyRx.rtp = s.rtp := rfl
@[simp] theorem readyRx_ntu : s.readyRx.ntu = s.ntu := rfl
@[simp] theorem readyRx_mga : s.readyRx.mga = s.mga := rfl
@[simp] theorem readyRx_counters : s.readyRx.counters = s.counters := rfl
@[simp] theorem readyRx_resetAsserted : s.readyRx.resetAsserted = s.resetAsserted := rfl
@[simp] theorem readyRx_freeIndex : s.readyRx.freeIndex = s.freeIndex := rfl
@[simp] theorem readyRx_pending : s.readyRx.pending = s.pending := rfl
@[simp] theorem readyRx_slot (t : Tag) : s.readyRx.slot t = s.slot t := rfl
@[simp] theorem readyRx_entry (n : EntryNo) : s.readyRx.entry n = s.entry n := rfl
@[simp] theorem readyRx_record (n : RecordNo) : s.readyRx.record n = s.record n := rfl
@[simp] theorem readyRx_station (n : StationNo) : s.readyRx.station n = s.station n := rfl
@[simp] theorem readyRx_seg (y : Seg) : s.readyRx.seg y = s.seg y := by cases y <;> rfl
@[simp] theorem readyRx_node (n : NodeNo) : s.readyRx.node n = s.node n := rfl

/-! ### pushClash -/

@[simp] theorem pushClash_entries (c : ClashEntry) : (s.pushClash c).entries = s.entries := rfl
@[simp] theorem pushClash_rst (c : ClashEntry) : (s.pushClash c).rst = s.rst := rfl
@[simp] theorem pushClash_segA (c : ClashEntry) : (s.pushClash c).segA = s.segA := rfl
@[simp] theorem pushClash_segB (c : ClashEntry) : (s.pushClash c).segB = s.segB := rfl
@[simp] theorem pushClash_stations (c : ClashEntry) : (s.pushClash c).stations = s.stations := rfl
@[simp] theorem pushClash_rtp (c : ClashEntry) : (s.pushClash c).rtp = s.rtp := rfl
@[simp] theorem pushClash_ntu (c : ClashEntry) : (s.pushClash c).ntu = s.ntu := rfl
@[simp] theorem pushClash_mga (c : ClashEntry) : (s.pushClash c).mga = s.mga := rfl
@[simp] theorem pushClash_counters (c : ClashEntry) : (s.pushClash c).counters = s.counters := rfl
@[simp] theorem pushClash_upRx (c : ClashEntry) : (s.pushClash c).upRx = s.upRx := rfl
@[simp] theorem pushClash_resetAsserted (c : ClashEntry) : (s.pushClash c).resetAsserted = s.resetAsserted := rfl
@[simp] theorem pushClash_freeIndex (c : ClashEntry) : (s.pushClash c).freeIndex = s.freeIndex := rfl
@[simp] theorem pushClash_pending (c : ClashEntry) : (s.pushClash c).pending = s.pending := rfl
@[simp] theorem pushClash_slot (c : ClashEntry) (t : Tag) : (s.pushClash c).slot t = s.slot t := rfl
@[simp] theorem pushClash_entry (c : ClashEntry) (n : EntryNo) : (s.pushClash c).entry n = s.entry n := rfl
@[simp] theorem pushClash_record (c : ClashEntry) (n : RecordNo) : (s.pushClash c).record n = s.record n := rfl
@[simp] theorem pushClash_station (c : ClashEntry) (n : StationNo) : (s.pushClash c).station n = s.station n := rfl
@[simp] theorem pushClash_seg (c : ClashEntry) (y : Seg) : (s.pushClash c).seg y = s.seg y := by cases y <;> rfl
@[simp] theorem pushClash_node (c : ClashEntry) (n : NodeNo) : (s.pushClash c).node n = s.node n := rfl

/-! ### popClash -/

@[simp] theorem popClash_entries : s.popClash.entries = s.entries := rfl
@[simp] theorem popClash_rst : s.popClash.rst = s.rst := rfl
@[simp] theorem popClash_segA : s.popClash.segA = s.segA := rfl
@[simp] theorem popClash_segB : s.popClash.segB = s.segB := rfl
@[simp] theorem popClash_stations : s.popClash.stations = s.stations := rfl
@[simp] theorem popClash_rtp : s.popClash.rtp = s.rtp := rfl
@[simp] theorem popClash_ntu : s.popClash.ntu = s.ntu := rfl
@[simp] theorem popClash_mga : s.popClash.mga = s.mga := rfl
@[simp] theorem popClash_counters : s.popClash.counters = s.counters := rfl
@[simp] theorem popClash_upRx : s.popClash.upRx = s.upRx := rfl
@[simp] theorem popClash_resetAsserted : s.popClash.resetAsserted = s.resetAsserted := rfl
@[simp] theorem popClash_freeIndex : s.popClash.freeIndex = s.freeIndex := rfl
@[simp] theorem popClash_pending : s.popClash.pending = s.pending := rfl
@[simp] theorem popClash_slot (t : Tag) : s.popClash.slot t = s.slot t := rfl
@[simp] theorem popClash_entry (n : EntryNo) : s.popClash.entry n = s.entry n := rfl
@[simp] theorem popClash_record (n : RecordNo) : s.popClash.record n = s.record n := rfl
@[simp] theorem popClash_station (n : StationNo) : s.popClash.station n = s.station n := rfl
@[simp] theorem popClash_seg (y : Seg) : s.popClash.seg y = s.seg y := by cases y <;> rfl
@[simp] theorem popClash_node (n : NodeNo) : s.popClash.node n = s.node n := rfl

/-! ### detachAll -/

@[simp] theorem detachAll_entries (e : EntryNo) : (s.detachAll e).entries = s.entries := rfl
@[simp] theorem detachAll_rst (e : EntryNo) : (s.detachAll e).rst = s.rst := rfl
@[simp] theorem detachAll_segA (e : EntryNo) : (s.detachAll e).segA = s.segA := rfl
@[simp] theorem detachAll_segB (e : EntryNo) : (s.detachAll e).segB = s.segB := rfl
@[simp] theorem detachAll_stations (e : EntryNo) : (s.detachAll e).stations = s.stations := rfl
@[simp] theorem detachAll_rtp (e : EntryNo) : (s.detachAll e).rtp = s.rtp := rfl
@[simp] theorem detachAll_ntu (e : EntryNo) : (s.detachAll e).ntu = s.ntu := rfl
@[simp] theorem detachAll_mga (e : EntryNo) : (s.detachAll e).mga = s.mga := rfl
@[simp] theorem detachAll_counters (e : EntryNo) : (s.detachAll e).counters = s.counters := rfl
@[simp] theorem detachAll_upRx (e : EntryNo) : (s.detachAll e).upRx = s.upRx := rfl
@[simp] theorem detachAll_resetAsserted (e : EntryNo) : (s.detachAll e).resetAsserted = s.resetAsserted := rfl
@[simp] theorem detachAll_freeIndex (e : EntryNo) : (s.detachAll e).freeIndex = s.freeIndex := rfl
@[simp] theorem detachAll_pending (e : EntryNo) : (s.detachAll e).pending = s.pending := rfl
@[simp] theorem detachAll_entry (e : EntryNo) (n : EntryNo) : (s.detachAll e).entry n = s.entry n := rfl
@[simp] theorem detachAll_record (e : EntryNo) (n : RecordNo) : (s.detachAll e).record n = s.record n := rfl
@[simp] theorem detachAll_station (e : EntryNo) (n : StationNo) : (s.detachAll e).station n = s.station n := rfl
@[simp] theorem detachAll_seg (e : EntryNo) (y : Seg) : (s.detachAll e).seg y = s.seg y := by cases y <;> rfl
@[simp] theorem detachAll_node (e : EntryNo) (n : NodeNo) : (s.detachAll e).node n = s.node n := rfl

/-! ### mirrorAgeTick -/

@[simp] theorem mirrorAgeTick_ort : s.mirrorAgeTick.ort = s.ort := rfl
@[simp] theorem mirrorAgeTick_entries : s.mirrorAgeTick.entries = s.entries := rfl
@[simp] theorem mirrorAgeTick_segA : s.mirrorAgeTick.segA = s.segA := rfl
@[simp] theorem mirrorAgeTick_segB : s.mirrorAgeTick.segB = s.segB := rfl
@[simp] theorem mirrorAgeTick_stations : s.mirrorAgeTick.stations = s.stations := rfl
@[simp] theorem mirrorAgeTick_rtp : s.mirrorAgeTick.rtp = s.rtp := rfl
@[simp] theorem mirrorAgeTick_ntu : s.mirrorAgeTick.ntu = s.ntu := rfl
@[simp] theorem mirrorAgeTick_mga : s.mirrorAgeTick.mga = s.mga := rfl
@[simp] theorem mirrorAgeTick_counters : s.mirrorAgeTick.counters = s.counters := rfl
@[simp] theorem mirrorAgeTick_upRx : s.mirrorAgeTick.upRx = s.upRx := rfl
@[simp] theorem mirrorAgeTick_resetAsserted : s.mirrorAgeTick.resetAsserted = s.resetAsserted := rfl
@[simp] theorem mirrorAgeTick_freeIndex : s.mirrorAgeTick.freeIndex = s.freeIndex := rfl
@[simp] theorem mirrorAgeTick_pending : s.mirrorAgeTick.pending = s.pending := rfl
@[simp] theorem mirrorAgeTick_slot (t : Tag) : s.mirrorAgeTick.slot t = s.slot t := rfl
@[simp] theorem mirrorAgeTick_entry (n : EntryNo) : s.mirrorAgeTick.entry n = s.entry n := rfl
@[simp] theorem mirrorAgeTick_station (n : StationNo) : s.mirrorAgeTick.station n = s.station n := rfl
@[simp] theorem mirrorAgeTick_seg (y : Seg) : s.mirrorAgeTick.seg y = s.seg y := by cases y <;> rfl
@[simp] theorem mirrorAgeTick_node (n : NodeNo) : s.mirrorAgeTick.node n = s.node n := rfl

/-! ### clearCounters -/

@[simp] theorem clearCounters_ort : s.clearCounters.ort = s.ort := rfl
@[simp] theorem clearCounters_entries : s.clearCounters.entries = s.entries := rfl
@[simp] theorem clearCounters_rst : s.clearCounters.rst = s.rst := rfl
@[simp] theorem clearCounters_stations : s.clearCounters.stations = s.stations := rfl
@[simp] theorem clearCounters_rtp : s.clearCounters.rtp = s.rtp := rfl
@[simp] theorem clearCounters_ntu : s.clearCounters.ntu = s.ntu := rfl
@[simp] theorem clearCounters_mga : s.clearCounters.mga = s.mga := rfl
@[simp] theorem clearCounters_upRx : s.clearCounters.upRx = s.upRx := rfl
@[simp] theorem clearCounters_resetAsserted : s.clearCounters.resetAsserted = s.resetAsserted := rfl
@[simp] theorem clearCounters_freeIndex : s.clearCounters.freeIndex = s.freeIndex := rfl
@[simp] theorem clearCounters_pending : s.clearCounters.pending = s.pending := rfl
@[simp] theorem clearCounters_slot (t : Tag) : s.clearCounters.slot t = s.slot t := rfl
@[simp] theorem clearCounters_entry (n : EntryNo) : s.clearCounters.entry n = s.entry n := rfl
@[simp] theorem clearCounters_record (n : RecordNo) : s.clearCounters.record n = s.record n := rfl
@[simp] theorem clearCounters_station (n : StationNo) : s.clearCounters.station n = s.station n := rfl
@[simp] theorem clearCounters_node (n : NodeNo) : s.clearCounters.node n = s.node n := rfl

end Sys2Proof.Machine.State
end

