-- ==== Sys2Proof/Laws/Tables.lean ====
section
/-! SUPPORT. What a table holds after one element, or every element, has changed. -/

namespace Sys2Proof.Machine

variable {α : Type} {n : Nat}

theorem upd_get (v : Vector α n) (i j : Fin n) (f : α → α) :
    (upd v i f)[j] = if j = i then f v[j] else v[j] := by
  unfold upd
  by_cases h : j = i
  · subst h; simp
  · have h' : i.val ≠ j.val := fun e => h (Fin.ext e.symm)
    simp [h, h']

theorem mapAll_get (v : Vector α n) (f : α → α) (j : Fin n) : (mapAll v f)[j] = f v[j] := by
  simp [mapAll]

namespace State

variable (s : State)

@[simp] theorem updSlot_slot (u t : Tag) (f : Slot → Slot) :
    (s.updSlot u f).slot t = if t = u then f (s.slot t) else s.slot t := upd_get _ _ _ _

@[simp] theorem updEntry_entry (e n : EntryNo) (f : Entry → Entry) :
    (s.updEntry e f).entry n = if n = e then f (s.entry n) else s.entry n := upd_get _ _ _ _

@[simp] theorem updRecord_record (r n : RecordNo) (f : Record → Record) :
    (s.updRecord r f).record n = if n = r then f (s.record n) else s.record n := upd_get _ _ _ _

@[simp] theorem updStation_station (i n : StationNo) (f : StationRecord → StationRecord) :
    (s.updStation i f).station n = if n = i then f (s.station n) else s.station n := upd_get _ _ _ _

@[simp] theorem updSeg_seg (x y : Seg) (f : Segment → Segment) :
    (s.updSeg x f).seg y = if y = x then f (s.seg y) else s.seg y := by
  cases x <;> cases y <;> rfl

@[simp] theorem updNotices_ntu (f : NoticeUnit → NoticeUnit) : (s.updNotices f).ntu = f s.ntu := rfl
@[simp] theorem raise_ntu (k : NodeNo) (d : Half) : (s.raise k d).ntu = s.ntu.raise k d := rfl
@[simp] theorem updReturn_rtp (f : ReturnPath → ReturnPath) : (s.updReturn f).rtp = f s.rtp := rfl
@[simp] theorem updAgent_mga (f : Agent → Agent) : (s.updAgent f).mga = f s.mga := rfl
@[simp] theorem updCounters_counters (f : Counters → Counters) :
    (s.updCounters f).counters = f s.counters := rfl

/-! ### Slots -/

@[simp] theorem occupy_slot (q : Request) (o : Origin) (e : Option EntryNo) (t : Tag) :
    (s.occupy q o e).slot t = if t = q.tag then occupiedSlot q o e else s.slot t := by
  simp [occupy]

@[simp] theorem respond_slot (u t : Tag) (st : Status) (rs : Reason) (src : PayloadSource) :
    (s.respond u st rs src).slot t
      = if t = u then { s.slot t with state := .returning, status := some st, reason := some rs, source := some src }
        else s.slot t := by
  simp [respond]

@[simp] theorem respond_rtp (u : Tag) (st : Status) (rs : Reason) (src : PayloadSource) :
    (s.respond u st rs src).rtp = { s.rtp with queue := s.rtp.queue ++ [u] } := rfl

@[simp] theorem endWait_slot (u t : Tag) (st : Status) (rs : Reason) :
    (s.endWait u st rs).slot t
      = if t = u then { s.slot t with state := .returning, status := some st, reason := some rs, source := some .none }
        else s.slot t := by
  simp [endWait]

@[simp] theorem endWait_rtp (u : Tag) (st : Status) (rs : Reason) :
    (s.endWait u st rs).rtp = { s.rtp with queue := s.rtp.queue ++ [u] } := rfl

@[simp] theorem endWait_mga (u : Tag) (st : Status) (rs : Reason) :
    (s.endWait u st rs).mga
      = { s.mga with pendingRecords := s.mga.pendingRecords.filter (fun p => p.tag ≠ u) } := rfl

@[simp] theorem beginWait_slot (u t : Tag) (c : WaitingCommand) :
    (s.beginWait u c).slot t = if t = u then { s.slot t with state := .waiting } else s.slot t := by
  simp [beginWait]

@[simp] theorem beginWait_mga (u : Tag) (c : WaitingCommand) :
    (s.beginWait u c).mga
      = { s.mga with pendingRecords := s.mga.pendingRecords ++ [{ tag := u, command := c }] } := rfl

/-! ### Buffers and the clash queue: what leaves them as they were -/

@[simp] theorem updSlot_frameBuffers (t : Tag) (f : Slot → Slot) :
    (s.updSlot t f).ort.frameBuffers = s.ort.frameBuffers := rfl
@[simp] theorem updSlot_mgmtBuffers (t : Tag) (f : Slot → Slot) :
    (s.updSlot t f).ort.mgmtBuffers = s.ort.mgmtBuffers := rfl
@[simp] theorem updSlot_clashQueue (t : Tag) (f : Slot → Slot) :
    (s.updSlot t f).ort.clashQueue = s.ort.clashQueue := rfl
@[simp] theorem occupy_frameBuffers (q : Request) (o : Origin) (e : Option EntryNo) :
    (s.occupy q o e).ort.frameBuffers = s.ort.frameBuffers := rfl
@[simp] theorem occupy_mgmtBuffers (q : Request) (o : Origin) (e : Option EntryNo) :
    (s.occupy q o e).ort.mgmtBuffers = s.ort.mgmtBuffers := rfl
@[simp] theorem occupy_clashQueue (q : Request) (o : Origin) (e : Option EntryNo) :
    (s.occupy q o e).ort.clashQueue = s.ort.clashQueue := rfl
@[simp] theorem respond_frameBuffers (t : Tag) (st : Status) (rs : Reason) (src : PayloadSource) :
    (s.respond t st rs src).ort.frameBuffers = s.ort.frameBuffers := rfl
@[simp] theorem respond_mgmtBuffers (t : Tag) (st : Status) (rs : Reason) (src : PayloadSource) :
    (s.respond t st rs src).ort.mgmtBuffers = s.ort.mgmtBuffers := rfl
@[simp] theorem respond_clashQueue (t : Tag) (st : Status) (rs : Reason) (src : PayloadSource) :
    (s.respond t st rs src).ort.clashQueue = s.ort.clashQueue := rfl
@[simp] theorem endWait_frameBuffers (t : Tag) (st : Status) (rs : Reason) :
    (s.endWait t st rs).ort.frameBuffers = s.ort.frameBuffers := rfl
@[simp] theorem endWait_mgmtBuffers (t : Tag) (st : Status) (rs : Reason) :
    (s.endWait t st rs).ort.mgmtBuffers = s.ort.mgmtBuffers := rfl
@[simp] theorem endWait_clashQueue (t : Tag) (st : Status) (rs : Reason) :
    (s.endWait t st rs).ort.clashQueue = s.ort.clashQueue := rfl
@[simp] theorem beginWait_frameBuffers (t : Tag) (c : WaitingCommand) :
    (s.beginWait t c).ort.frameBuffers = s.ort.frameBuffers := rfl
@[simp] theorem beginWait_mgmtBuffers (t : Tag) (c : WaitingCommand) :
    (s.beginWait t c).ort.mgmtBuffers = s.ort.mgmtBuffers := rfl
@[simp] theorem beginWait_clashQueue (t : Tag) (c : WaitingCommand) :
    (s.beginWait t c).ort.clashQueue = s.ort.clashQueue := rfl
@[simp] theorem writeMgmtBuffer_frameBuffers (k : Fin 4) (bs : List Byte) :
    (s.writeMgmtBuffer k bs).ort.frameBuffers = s.ort.frameBuffers := rfl
@[simp] theorem writeMgmtBuffer_clashQueue (k : Fin 4) (bs : List Byte) :
    (s.writeMgmtBuffer k bs).ort.clashQueue = s.ort.clashQueue := rfl
@[simp] theorem writeFrameBuffer_mgmtBuffers (k : Fin 24) (bs : List Byte) :
    (s.writeFrameBuffer k bs).ort.mgmtBuffers = s.ort.mgmtBuffers := rfl
@[simp] theorem writeFrameBuffer_clashQueue (k : Fin 24) (bs : List Byte) :
    (s.writeFrameBuffer k bs).ort.clashQueue = s.ort.clashQueue := rfl

@[simp] theorem countFrame_counters :
    s.countFrame.counters = { s.counters with rxFrames := satInc s.counters.rxFrames } := rfl
@[simp] theorem countResponse_counters :
    s.countResponse.counters = { s.counters with txResponses := satInc s.counters.txResponses } := rfl
@[simp] theorem occupyMgmt_frameBuffers (q : Request) (k : Fin 4) :
    (s.occupyMgmt q k).ort.frameBuffers = s.ort.frameBuffers := rfl
@[simp] theorem occupyMgmt_mgmtBuffers (q : Request) (k : Fin 4) :
    (s.occupyMgmt q k).ort.mgmtBuffers = s.ort.mgmtBuffers := rfl
@[simp] theorem occupyMgmt_clashQueue (q : Request) (k : Fin 4) :
    (s.occupyMgmt q k).ort.clashQueue = s.ort.clashQueue := rfl

/-- The slots after a management request takes its slot (R36). -/
@[simp] theorem occupyMgmt_slot (q : Request) (k : Fin 4) (t : Tag) :
    (s.occupyMgmt q k).slot t = if t = q.tag then mgmtSlot q k else s.slot t := by
  unfold occupyMgmt mgmtSlot
  by_cases h : t = q.tag <;> simp [h]

@[simp] theorem occupyLocal_slot (q : Request) (e : EntryNo) (t : Tag) :
    (s.occupyLocal q e).slot t = if t = q.tag then occupiedSlot q .localAnswer (some e) else s.slot t :=
  occupy_slot _ _ _ _ _
@[simp] theorem occupyLocal_frameBuffers (q : Request) (e : EntryNo) :
    (s.occupyLocal q e).ort.frameBuffers = s.ort.frameBuffers := rfl
@[simp] theorem occupyLocal_mgmtBuffers (q : Request) (e : EntryNo) :
    (s.occupyLocal q e).ort.mgmtBuffers = s.ort.mgmtBuffers := rfl
@[simp] theorem occupyLocal_clashQueue (q : Request) (e : EntryNo) :
    (s.occupyLocal q e).ort.clashQueue = s.ort.clashQueue := rfl
@[simp] theorem readyRx_upRx : s.readyRx.upRx = Receiver.idle := rfl
@[simp] theorem pushClash_frameBuffers (c : ClashEntry) : (s.pushClash c).ort.frameBuffers = s.ort.frameBuffers := rfl
@[simp] theorem pushClash_mgmtBuffers (c : ClashEntry) : (s.pushClash c).ort.mgmtBuffers = s.ort.mgmtBuffers := rfl
@[simp] theorem pushClash_clashQueue (c : ClashEntry) :
    (s.pushClash c).ort.clashQueue = s.ort.clashQueue ++ [c] := rfl
@[simp] theorem popClash_frameBuffers : s.popClash.ort.frameBuffers = s.ort.frameBuffers := rfl
@[simp] theorem popClash_mgmtBuffers : s.popClash.ort.mgmtBuffers = s.ort.mgmtBuffers := rfl
@[simp] theorem popClash_clashQueue : s.popClash.ort.clashQueue = s.ort.clashQueue.tail := rfl
@[simp] theorem detachAll_frameBuffers (e : EntryNo) :
    (s.detachAll e).ort.frameBuffers = s.ort.frameBuffers := rfl
@[simp] theorem detachAll_mgmtBuffers (e : EntryNo) : (s.detachAll e).ort.mgmtBuffers = s.ort.mgmtBuffers := rfl
@[simp] theorem detachAll_clashQueue (e : EntryNo) : (s.detachAll e).ort.clashQueue = s.ort.clashQueue := rfl

/-- A slot after every slot of an entry is detached (R13). -/
@[simp] theorem detachAll_slot (e : EntryNo) (t : Tag) :
    (s.detachAll e).slot t
      = if (s.slot t).entry = some e then { s.slot t with attached := false } else s.slot t := mapAll_get _ _ _

/-- A record after a tick (R66). -/
@[simp] theorem mirrorAgeTick_record (r : RecordNo) : s.mirrorAgeTick.record r = (s.record r).tick :=
  mapAll_get _ _ _

theorem writeMgmtBuffer_get (k j : Fin 4) (bs : List Byte) :
    (s.writeMgmtBuffer k bs).ort.mgmtBuffers[j] = if j = k then bs else s.ort.mgmtBuffers[j] := upd_get _ _ _ _

theorem writeFrameBuffer_get (k j : Fin 24) (bs : List Byte) :
    (s.writeFrameBuffer k bs).ort.frameBuffers[j]
      = if j = k then bs ++ s.ort.frameBuffers[j].drop bs.length else s.ort.frameBuffers[j] := upd_get _ _ _ _

end State

end Sys2Proof.Machine
end

