-- ==== Sys2Proof/Laws/Frames.lean ====
section
/-! SUPPORT. What each shared operation leaves as it was: one lemma per operation and untouched part of the
state. -/

namespace Sys2Proof.Machine.State

variable (s : State)

/-! ### dropClaim -/

@[simp] theorem dropClaim_entries (r : RecordNo) : (s.dropClaim r).entries = s.entries := by
  unfold dropClaim; split <;> simp
@[simp] theorem dropClaim_segA (r : RecordNo) : (s.dropClaim r).segA = s.segA := by
  unfold dropClaim; split <;> simp
@[simp] theorem dropClaim_segB (r : RecordNo) : (s.dropClaim r).segB = s.segB := by
  unfold dropClaim; split <;> simp
@[simp] theorem dropClaim_stations (r : RecordNo) : (s.dropClaim r).stations = s.stations := by
  unfold dropClaim; split <;> simp
@[simp] theorem dropClaim_rtp (r : RecordNo) : (s.dropClaim r).rtp = s.rtp := by
  unfold dropClaim; split <;> simp
@[simp] theorem dropClaim_ntu (r : RecordNo) : (s.dropClaim r).ntu = s.ntu := by
  unfold dropClaim; split <;> simp
@[simp] theorem dropClaim_mga (r : RecordNo) : (s.dropClaim r).mga = s.mga := by
  unfold dropClaim; split <;> simp
@[simp] theorem dropClaim_counters (r : RecordNo) : (s.dropClaim r).counters = s.counters := by
  unfold dropClaim; split <;> simp
@[simp] theorem dropClaim_upRx (r : RecordNo) : (s.dropClaim r).upRx = s.upRx := by
  unfold dropClaim; split <;> simp
@[simp] theorem dropClaim_resetAsserted (r : RecordNo) : (s.dropClaim r).resetAsserted = s.resetAsserted := by
  unfold dropClaim; split <;> simp
@[simp] theorem dropClaim_freeIndex (r : RecordNo) : (s.dropClaim r).freeIndex = s.freeIndex := by
  unfold dropClaim; split <;> simp
@[simp] theorem dropClaim_pending (r : RecordNo) : (s.dropClaim r).pending = s.pending := by
  unfold dropClaim; split <;> simp
@[simp] theorem dropClaim_entry (r : RecordNo) (n : EntryNo) : (s.dropClaim r).entry n = s.entry n := by
  unfold dropClaim; split <;> simp
@[simp] theorem dropClaim_station (r : RecordNo) (n : StationNo) : (s.dropClaim r).station n = s.station n := by
  unfold dropClaim; split <;> simp
@[simp] theorem dropClaim_seg (r : RecordNo) (y : Seg) : (s.dropClaim r).seg y = s.seg y := by
  unfold dropClaim; split <;> simp
@[simp] theorem dropClaim_node (r : RecordNo) (n : NodeNo) : (s.dropClaim r).node n = s.node n := by
  unfold dropClaim; split <;> simp
@[simp] theorem dropClaim_frameBuffers (r : RecordNo) : (s.dropClaim r).ort.frameBuffers = s.ort.frameBuffers := by
  unfold dropClaim; split <;> simp
@[simp] theorem dropClaim_mgmtBuffers (r : RecordNo) : (s.dropClaim r).ort.mgmtBuffers = s.ort.mgmtBuffers := by
  unfold dropClaim; split <;> simp
@[simp] theorem dropClaim_clashQueue (r : RecordNo) : (s.dropClaim r).ort.clashQueue = s.ort.clashQueue := by
  unfold dropClaim; split <;> simp

/-! ### takeClaim -/

@[simp] theorem takeClaim_entries (r : RecordNo) (t : Tag) : (s.takeClaim r t).entries = s.entries := by
  simp [takeClaim]
@[simp] theorem takeClaim_segA (r : RecordNo) (t : Tag) : (s.takeClaim r t).segA = s.segA := by
  simp [takeClaim]
@[simp] theorem takeClaim_segB (r : RecordNo) (t : Tag) : (s.takeClaim r t).segB = s.segB := by
  simp [takeClaim]
@[simp] theorem takeClaim_stations (r : RecordNo) (t : Tag) : (s.takeClaim r t).stations = s.stations := by
  simp [takeClaim]
@[simp] theorem takeClaim_rtp (r : RecordNo) (t : Tag) : (s.takeClaim r t).rtp = s.rtp := by
  simp [takeClaim]
@[simp] theorem takeClaim_ntu (r : RecordNo) (t : Tag) : (s.takeClaim r t).ntu = s.ntu := by
  simp [takeClaim]
@[simp] theorem takeClaim_mga (r : RecordNo) (t : Tag) : (s.takeClaim r t).mga = s.mga := by
  simp [takeClaim]
@[simp] theorem takeClaim_counters (r : RecordNo) (t : Tag) : (s.takeClaim r t).counters = s.counters := by
  simp [takeClaim]
@[simp] theorem takeClaim_upRx (r : RecordNo) (t : Tag) : (s.takeClaim r t).upRx = s.upRx := by
  simp [takeClaim]
@[simp] theorem takeClaim_resetAsserted (r : RecordNo) (t : Tag) : (s.takeClaim r t).resetAsserted = s.resetAsserted := by
  simp [takeClaim]
@[simp] theorem takeClaim_freeIndex (r : RecordNo) (t : Tag) : (s.takeClaim r t).freeIndex = s.freeIndex := by
  simp [takeClaim]
@[simp] theorem takeClaim_pending (r : RecordNo) (t : Tag) : (s.takeClaim r t).pending = s.pending := by
  simp [takeClaim]
@[simp] theorem takeClaim_entry (r : RecordNo) (t : Tag) (n : EntryNo) : (s.takeClaim r t).entry n = s.entry n := by
  simp [takeClaim]
@[simp] theorem takeClaim_station (r : RecordNo) (t : Tag) (n : StationNo) : (s.takeClaim r t).station n = s.station n := by
  simp [takeClaim]
@[simp] theorem takeClaim_seg (r : RecordNo) (t : Tag) (y : Seg) : (s.takeClaim r t).seg y = s.seg y := by
  simp [takeClaim]
@[simp] theorem takeClaim_node (r : RecordNo) (t : Tag) (n : NodeNo) : (s.takeClaim r t).node n = s.node n := by
  simp [takeClaim]
@[simp] theorem takeClaim_frameBuffers (r : RecordNo) (t : Tag) : (s.takeClaim r t).ort.frameBuffers = s.ort.frameBuffers := by
  simp [takeClaim]
@[simp] theorem takeClaim_mgmtBuffers (r : RecordNo) (t : Tag) : (s.takeClaim r t).ort.mgmtBuffers = s.ort.mgmtBuffers := by
  simp [takeClaim]
@[simp] theorem takeClaim_clashQueue (r : RecordNo) (t : Tag) : (s.takeClaim r t).ort.clashQueue = s.ort.clashQueue := by
  simp [takeClaim]

/-! ### completeQuiesce -/

@[simp] theorem completeQuiesce_rst (e : EntryNo) : (s.completeQuiesce e).rst = s.rst := by
  unfold completeQuiesce; split <;> simp
@[simp] theorem completeQuiesce_segA (e : EntryNo) : (s.completeQuiesce e).segA = s.segA := by
  unfold completeQuiesce; split <;> simp
@[simp] theorem completeQuiesce_segB (e : EntryNo) : (s.completeQuiesce e).segB = s.segB := by
  unfold completeQuiesce; split <;> simp
@[simp] theorem completeQuiesce_stations (e : EntryNo) : (s.completeQuiesce e).stations = s.stations := by
  unfold completeQuiesce; split <;> simp
@[simp] theorem completeQuiesce_ntu (e : EntryNo) : (s.completeQuiesce e).ntu = s.ntu := by
  unfold completeQuiesce; split <;> simp
@[simp] theorem completeQuiesce_counters (e : EntryNo) : (s.completeQuiesce e).counters = s.counters := by
  unfold completeQuiesce; split <;> simp
@[simp] theorem completeQuiesce_upRx (e : EntryNo) : (s.completeQuiesce e).upRx = s.upRx := by
  unfold completeQuiesce; split <;> simp
@[simp] theorem completeQuiesce_resetAsserted (e : EntryNo) : (s.completeQuiesce e).resetAsserted = s.resetAsserted := by
  unfold completeQuiesce; split <;> simp
@[simp] theorem completeQuiesce_freeIndex (e : EntryNo) : (s.completeQuiesce e).freeIndex = s.freeIndex := by
  unfold completeQuiesce; split <;> simp
@[simp] theorem completeQuiesce_pending (e : EntryNo) : (s.completeQuiesce e).pending = s.pending := by
  unfold completeQuiesce; split <;> simp
@[simp] theorem completeQuiesce_record (e : EntryNo) (n : RecordNo) : (s.completeQuiesce e).record n = s.record n := by
  unfold completeQuiesce; split <;> simp
@[simp] theorem completeQuiesce_station (e : EntryNo) (n : StationNo) : (s.completeQuiesce e).station n = s.station n := by
  unfold completeQuiesce; split <;> simp
@[simp] theorem completeQuiesce_seg (e : EntryNo) (y : Seg) : (s.completeQuiesce e).seg y = s.seg y := by
  unfold completeQuiesce; split <;> simp
@[simp] theorem completeQuiesce_node (e : EntryNo) (n : NodeNo) : (s.completeQuiesce e).node n = s.node n := by
  unfold completeQuiesce; split <;> simp
@[simp] theorem completeQuiesce_frameBuffers (e : EntryNo) : (s.completeQuiesce e).ort.frameBuffers = s.ort.frameBuffers := by
  unfold completeQuiesce; split <;> simp
@[simp] theorem completeQuiesce_mgmtBuffers (e : EntryNo) : (s.completeQuiesce e).ort.mgmtBuffers = s.ort.mgmtBuffers := by
  unfold completeQuiesce; split <;> simp
@[simp] theorem completeQuiesce_clashQueue (e : EntryNo) : (s.completeQuiesce e).ort.clashQueue = s.ort.clashQueue := by
  unfold completeQuiesce; split <;> simp

/-! ### leaveEntry -/

@[simp] theorem leaveEntry_rst (t : Tag) (o : Option Status) : (s.leaveEntry t o).rst = s.rst := by
  unfold leaveEntry; (repeat' split) <;> simp <;> split <;> simp
@[simp] theorem leaveEntry_segA (t : Tag) (o : Option Status) : (s.leaveEntry t o).segA = s.segA := by
  unfold leaveEntry; (repeat' split) <;> simp <;> split <;> simp
@[simp] theorem leaveEntry_segB (t : Tag) (o : Option Status) : (s.leaveEntry t o).segB = s.segB := by
  unfold leaveEntry; (repeat' split) <;> simp <;> split <;> simp
@[simp] theorem leaveEntry_stations (t : Tag) (o : Option Status) : (s.leaveEntry t o).stations = s.stations := by
  unfold leaveEntry; (repeat' split) <;> simp <;> split <;> simp
@[simp] theorem leaveEntry_counters (t : Tag) (o : Option Status) : (s.leaveEntry t o).counters = s.counters := by
  unfold leaveEntry; (repeat' split) <;> simp <;> split <;> simp
@[simp] theorem leaveEntry_upRx (t : Tag) (o : Option Status) : (s.leaveEntry t o).upRx = s.upRx := by
  unfold leaveEntry; (repeat' split) <;> simp <;> split <;> simp
@[simp] theorem leaveEntry_resetAsserted (t : Tag) (o : Option Status) : (s.leaveEntry t o).resetAsserted = s.resetAsserted := by
  unfold leaveEntry; (repeat' split) <;> simp <;> split <;> simp
@[simp] theorem leaveEntry_freeIndex (t : Tag) (o : Option Status) : (s.leaveEntry t o).freeIndex = s.freeIndex := by
  unfold leaveEntry; (repeat' split) <;> simp <;> split <;> simp
@[simp] theorem leaveEntry_pending (t : Tag) (o : Option Status) : (s.leaveEntry t o).pending = s.pending := by
  unfold leaveEntry; (repeat' split) <;> simp <;> split <;> simp
@[simp] theorem leaveEntry_record (t : Tag) (o : Option Status) (n : RecordNo) : (s.leaveEntry t o).record n = s.record n := by
  unfold leaveEntry; (repeat' split) <;> simp <;> split <;> simp
@[simp] theorem leaveEntry_station (t : Tag) (o : Option Status) (n : StationNo) : (s.leaveEntry t o).station n = s.station n := by
  unfold leaveEntry; (repeat' split) <;> simp <;> split <;> simp
@[simp] theorem leaveEntry_seg (t : Tag) (o : Option Status) (y : Seg) : (s.leaveEntry t o).seg y = s.seg y := by
  unfold leaveEntry; (repeat' split) <;> simp <;> split <;> simp
@[simp] theorem leaveEntry_frameBuffers (t : Tag) (o : Option Status) : (s.leaveEntry t o).ort.frameBuffers = s.ort.frameBuffers := by
  unfold leaveEntry; (repeat' split) <;> simp <;> split <;> simp
@[simp] theorem leaveEntry_mgmtBuffers (t : Tag) (o : Option Status) : (s.leaveEntry t o).ort.mgmtBuffers = s.ort.mgmtBuffers := by
  unfold leaveEntry; (repeat' split) <;> simp <;> split <;> simp
@[simp] theorem leaveEntry_clashQueue (t : Tag) (o : Option Status) : (s.leaveEntry t o).ort.clashQueue = s.ort.clashQueue := by
  unfold leaveEntry; (repeat' split) <;> simp <;> split <;> simp

/-! ### releaseClaim -/

@[simp] theorem releaseClaim_entries (t : Tag) : (s.releaseClaim t).entries = s.entries := by
  unfold releaseClaim; split <;> simp
@[simp] theorem releaseClaim_segA (t : Tag) : (s.releaseClaim t).segA = s.segA := by
  unfold releaseClaim; split <;> simp
@[simp] theorem releaseClaim_segB (t : Tag) : (s.releaseClaim t).segB = s.segB := by
  unfold releaseClaim; split <;> simp
@[simp] theorem releaseClaim_stations (t : Tag) : (s.releaseClaim t).stations = s.stations := by
  unfold releaseClaim; split <;> simp
@[simp] theorem releaseClaim_rtp (t : Tag) : (s.releaseClaim t).rtp = s.rtp := by
  unfold releaseClaim; split <;> simp
@[simp] theorem releaseClaim_ntu (t : Tag) : (s.releaseClaim t).ntu = s.ntu := by
  unfold releaseClaim; split <;> simp
@[simp] theorem releaseClaim_mga (t : Tag) : (s.releaseClaim t).mga = s.mga := by
  unfold releaseClaim; split <;> simp
@[simp] theorem releaseClaim_counters (t : Tag) : (s.releaseClaim t).counters = s.counters := by
  unfold releaseClaim; split <;> simp
@[simp] theorem releaseClaim_upRx (t : Tag) : (s.releaseClaim t).upRx = s.upRx := by
  unfold releaseClaim; split <;> simp
@[simp] theorem releaseClaim_resetAsserted (t : Tag) : (s.releaseClaim t).resetAsserted = s.resetAsserted := by
  unfold releaseClaim; split <;> simp
@[simp] theorem releaseClaim_freeIndex (t : Tag) : (s.releaseClaim t).freeIndex = s.freeIndex := by
  unfold releaseClaim; split <;> simp
@[simp] theorem releaseClaim_pending (t : Tag) : (s.releaseClaim t).pending = s.pending := by
  unfold releaseClaim; split <;> simp
@[simp] theorem releaseClaim_entry (t : Tag) (n : EntryNo) : (s.releaseClaim t).entry n = s.entry n := by
  unfold releaseClaim; split <;> simp
@[simp] theorem releaseClaim_station (t : Tag) (n : StationNo) : (s.releaseClaim t).station n = s.station n := by
  unfold releaseClaim; split <;> simp
@[simp] theorem releaseClaim_seg (t : Tag) (y : Seg) : (s.releaseClaim t).seg y = s.seg y := by
  unfold releaseClaim; split <;> simp
@[simp] theorem releaseClaim_node (t : Tag) (n : NodeNo) : (s.releaseClaim t).node n = s.node n := by
  unfold releaseClaim; split <;> simp
@[simp] theorem releaseClaim_frameBuffers (t : Tag) : (s.releaseClaim t).ort.frameBuffers = s.ort.frameBuffers := by
  unfold releaseClaim; split <;> simp
@[simp] theorem releaseClaim_mgmtBuffers (t : Tag) : (s.releaseClaim t).ort.mgmtBuffers = s.ort.mgmtBuffers := by
  unfold releaseClaim; split <;> simp
@[simp] theorem releaseClaim_clashQueue (t : Tag) : (s.releaseClaim t).ort.clashQueue = s.ort.clashQueue := by
  unfold releaseClaim; split <;> simp

/-! ### fill -/

@[simp] theorem fill_entries (t : Tag) (r : RecordNo) : (s.fill t r).entries = s.entries := by
  simp [fill]
@[simp] theorem fill_segA (t : Tag) (r : RecordNo) : (s.fill t r).segA = s.segA := by
  simp [fill]
@[simp] theorem fill_segB (t : Tag) (r : RecordNo) : (s.fill t r).segB = s.segB := by
  simp [fill]
@[simp] theorem fill_stations (t : Tag) (r : RecordNo) : (s.fill t r).stations = s.stations := by
  simp [fill]
@[simp] theorem fill_rtp (t : Tag) (r : RecordNo) : (s.fill t r).rtp = s.rtp := by
  simp [fill]
@[simp] theorem fill_ntu (t : Tag) (r : RecordNo) : (s.fill t r).ntu = s.ntu := by
  simp [fill]
@[simp] theorem fill_mga (t : Tag) (r : RecordNo) : (s.fill t r).mga = s.mga := by
  simp [fill]
@[simp] theorem fill_upRx (t : Tag) (r : RecordNo) : (s.fill t r).upRx = s.upRx := by
  simp [fill]
@[simp] theorem fill_resetAsserted (t : Tag) (r : RecordNo) : (s.fill t r).resetAsserted = s.resetAsserted := by
  simp [fill]
@[simp] theorem fill_freeIndex (t : Tag) (r : RecordNo) : (s.fill t r).freeIndex = s.freeIndex := by
  simp [fill]
@[simp] theorem fill_pending (t : Tag) (r : RecordNo) : (s.fill t r).pending = s.pending := by
  simp [fill]
@[simp] theorem fill_entry (t : Tag) (r : RecordNo) (n : EntryNo) : (s.fill t r).entry n = s.entry n := by
  simp [fill]
@[simp] theorem fill_station (t : Tag) (r : RecordNo) (n : StationNo) : (s.fill t r).station n = s.station n := by
  simp [fill]
@[simp] theorem fill_seg (t : Tag) (r : RecordNo) (y : Seg) : (s.fill t r).seg y = s.seg y := by
  simp [fill]
@[simp] theorem fill_node (t : Tag) (r : RecordNo) (n : NodeNo) : (s.fill t r).node n = s.node n := by
  simp [fill]
@[simp] theorem fill_frameBuffers (t : Tag) (r : RecordNo) : (s.fill t r).ort.frameBuffers = s.ort.frameBuffers := by
  simp [fill]
@[simp] theorem fill_mgmtBuffers (t : Tag) (r : RecordNo) : (s.fill t r).ort.mgmtBuffers = s.ort.mgmtBuffers := by
  simp [fill]
@[simp] theorem fill_clashQueue (t : Tag) (r : RecordNo) : (s.fill t r).ort.clashQueue = s.ort.clashQueue := by
  simp [fill]

/-! ### settleClaim -/

@[simp] theorem settleClaim_entries (t : Tag) (st : Status) : (s.settleClaim t st).entries = s.entries := by
  unfold settleClaim; (repeat' split) <;> simp
@[simp] theorem settleClaim_segA (t : Tag) (st : Status) : (s.settleClaim t st).segA = s.segA := by
  unfold settleClaim; (repeat' split) <;> simp
@[simp] theorem settleClaim_segB (t : Tag) (st : Status) : (s.settleClaim t st).segB = s.segB := by
  unfold settleClaim; (repeat' split) <;> simp
@[simp] theorem settleClaim_stations (t : Tag) (st : Status) : (s.settleClaim t st).stations = s.stations := by
  unfold settleClaim; (repeat' split) <;> simp
@[simp] theorem settleClaim_rtp (t : Tag) (st : Status) : (s.settleClaim t st).rtp = s.rtp := by
  unfold settleClaim; (repeat' split) <;> simp
@[simp] theorem settleClaim_ntu (t : Tag) (st : Status) : (s.settleClaim t st).ntu = s.ntu := by
  unfold settleClaim; (repeat' split) <;> simp
@[simp] theorem settleClaim_mga (t : Tag) (st : Status) : (s.settleClaim t st).mga = s.mga := by
  unfold settleClaim; (repeat' split) <;> simp
@[simp] theorem settleClaim_upRx (t : Tag) (st : Status) : (s.settleClaim t st).upRx = s.upRx := by
  unfold settleClaim; (repeat' split) <;> simp
@[simp] theorem settleClaim_resetAsserted (t : Tag) (st : Status) : (s.settleClaim t st).resetAsserted = s.resetAsserted := by
  unfold settleClaim; (repeat' split) <;> simp
@[simp] theorem settleClaim_freeIndex (t : Tag) (st : Status) : (s.settleClaim t st).freeIndex = s.freeIndex := by
  unfold settleClaim; (repeat' split) <;> simp
@[simp] theorem settleClaim_pending (t : Tag) (st : Status) : (s.settleClaim t st).pending = s.pending := by
  unfold settleClaim; (repeat' split) <;> simp
@[simp] theorem settleClaim_entry (t : Tag) (st : Status) (n : EntryNo) : (s.settleClaim t st).entry n = s.entry n := by
  unfold settleClaim; (repeat' split) <;> simp
@[simp] theorem settleClaim_station (t : Tag) (st : Status) (n : StationNo) : (s.settleClaim t st).station n = s.station n := by
  unfold settleClaim; (repeat' split) <;> simp
@[simp] theorem settleClaim_seg (t : Tag) (st : Status) (y : Seg) : (s.settleClaim t st).seg y = s.seg y := by
  unfold settleClaim; (repeat' split) <;> simp
@[simp] theorem settleClaim_node (t : Tag) (st : Status) (n : NodeNo) : (s.settleClaim t st).node n = s.node n := by
  unfold settleClaim; (repeat' split) <;> simp
@[simp] theorem settleClaim_frameBuffers (t : Tag) (st : Status) : (s.settleClaim t st).ort.frameBuffers = s.ort.frameBuffers := by
  unfold settleClaim; (repeat' split) <;> simp
@[simp] theorem settleClaim_mgmtBuffers (t : Tag) (st : Status) : (s.settleClaim t st).ort.mgmtBuffers = s.ort.mgmtBuffers := by
  unfold settleClaim; (repeat' split) <;> simp
@[simp] theorem settleClaim_clashQueue (t : Tag) (st : Status) : (s.settleClaim t st).ort.clashQueue = s.ort.clashQueue := by
  unfold settleClaim; (repeat' split) <;> simp

/-! ### requestSuccess -/

@[simp] theorem requestSuccess_ort (st : Station) : (s.requestSuccess st).ort = s.ort := by
  unfold requestSuccess; split <;> simp
@[simp] theorem requestSuccess_entries (st : Station) : (s.requestSuccess st).entries = s.entries := by
  unfold requestSuccess; split <;> simp
@[simp] theorem requestSuccess_rst (st : Station) : (s.requestSuccess st).rst = s.rst := by
  unfold requestSuccess; split <;> simp
@[simp] theorem requestSuccess_segA (st : Station) : (s.requestSuccess st).segA = s.segA := by
  unfold requestSuccess; split <;> simp
@[simp] theorem requestSuccess_segB (st : Station) : (s.requestSuccess st).segB = s.segB := by
  unfold requestSuccess; split <;> simp
@[simp] theorem requestSuccess_rtp (st : Station) : (s.requestSuccess st).rtp = s.rtp := by
  unfold requestSuccess; split <;> simp
@[simp] theorem requestSuccess_ntu (st : Station) : (s.requestSuccess st).ntu = s.ntu := by
  unfold requestSuccess; split <;> simp
@[simp] theorem requestSuccess_mga (st : Station) : (s.requestSuccess st).mga = s.mga := by
  unfold requestSuccess; split <;> simp
@[simp] theorem requestSuccess_counters (st : Station) : (s.requestSuccess st).counters = s.counters := by
  unfold requestSuccess; split <;> simp
@[simp] theorem requestSuccess_upRx (st : Station) : (s.requestSuccess st).upRx = s.upRx := by
  unfold requestSuccess; split <;> simp
@[simp] theorem requestSuccess_resetAsserted (st : Station) : (s.requestSuccess st).resetAsserted = s.resetAsserted := by
  unfold requestSuccess; split <;> simp
@[simp] theorem requestSuccess_freeIndex (st : Station) : (s.requestSuccess st).freeIndex = s.freeIndex := by
  unfold requestSuccess; split <;> simp
@[simp] theorem requestSuccess_pending (st : Station) : (s.requestSuccess st).pending = s.pending := by
  unfold requestSuccess; split <;> simp
@[simp] theorem requestSuccess_slot (st : Station) (v : Tag) : (s.requestSuccess st).slot v = s.slot v := by
  unfold requestSuccess; split <;> simp
@[simp] theorem requestSuccess_entry (st : Station) (n : EntryNo) : (s.requestSuccess st).entry n = s.entry n := by
  unfold requestSuccess; split <;> simp
@[simp] theorem requestSuccess_record (st : Station) (n : RecordNo) : (s.requestSuccess st).record n = s.record n := by
  unfold requestSuccess; split <;> simp
@[simp] theorem requestSuccess_seg (st : Station) (y : Seg) : (s.requestSuccess st).seg y = s.seg y := by
  unfold requestSuccess; split <;> simp
@[simp] theorem requestSuccess_node (st : Station) (n : NodeNo) : (s.requestSuccess st).node n = s.node n := by
  unfold requestSuccess; split <;> simp

/-! ### requestFailure -/

@[simp] theorem requestFailure_ort (x : Seg) (st : Station) : (s.requestFailure x st).ort = s.ort := by
  unfold requestFailure; (repeat' split) <;> simp
@[simp] theorem requestFailure_entries (x : Seg) (st : Station) : (s.requestFailure x st).entries = s.entries := by
  unfold requestFailure; (repeat' split) <;> simp
@[simp] theorem requestFailure_rst (x : Seg) (st : Station) : (s.requestFailure x st).rst = s.rst := by
  unfold requestFailure; (repeat' split) <;> simp
@[simp] theorem requestFailure_segA (x : Seg) (st : Station) : (s.requestFailure x st).segA = s.segA := by
  unfold requestFailure; (repeat' split) <;> simp
@[simp] theorem requestFailure_segB (x : Seg) (st : Station) : (s.requestFailure x st).segB = s.segB := by
  unfold requestFailure; (repeat' split) <;> simp
@[simp] theorem requestFailure_rtp (x : Seg) (st : Station) : (s.requestFailure x st).rtp = s.rtp := by
  unfold requestFailure; (repeat' split) <;> simp
@[simp] theorem requestFailure_mga (x : Seg) (st : Station) : (s.requestFailure x st).mga = s.mga := by
  unfold requestFailure; (repeat' split) <;> simp
@[simp] theorem requestFailure_counters (x : Seg) (st : Station) : (s.requestFailure x st).counters = s.counters := by
  unfold requestFailure; (repeat' split) <;> simp
@[simp] theorem requestFailure_upRx (x : Seg) (st : Station) : (s.requestFailure x st).upRx = s.upRx := by
  unfold requestFailure; (repeat' split) <;> simp
@[simp] theorem requestFailure_resetAsserted (x : Seg) (st : Station) : (s.requestFailure x st).resetAsserted = s.resetAsserted := by
  unfold requestFailure; (repeat' split) <;> simp
@[simp] theorem requestFailure_freeIndex (x : Seg) (st : Station) : (s.requestFailure x st).freeIndex = s.freeIndex := by
  unfold requestFailure; (repeat' split) <;> simp
@[simp] theorem requestFailure_pending (x : Seg) (st : Station) : (s.requestFailure x st).pending = s.pending := by
  unfold requestFailure; (repeat' split) <;> simp
@[simp] theorem requestFailure_slot (x : Seg) (st : Station) (v : Tag) : (s.requestFailure x st).slot v = s.slot v := by
  unfold requestFailure; (repeat' split) <;> simp
@[simp] theorem requestFailure_entry (x : Seg) (st : Station) (n : EntryNo) : (s.requestFailure x st).entry n = s.entry n := by
  unfold requestFailure; (repeat' split) <;> simp
@[simp] theorem requestFailure_record (x : Seg) (st : Station) (n : RecordNo) : (s.requestFailure x st).record n = s.record n := by
  unfold requestFailure; (repeat' split) <;> simp
@[simp] theorem requestFailure_seg (x : Seg) (st : Station) (y : Seg) : (s.requestFailure x st).seg y = s.seg y := by
  unfold requestFailure; (repeat' split) <;> simp

/-! ### probeSuccess -/

@[simp] theorem probeSuccess_ort (x : Seg) (i : StationNo) : (s.probeSuccess x i).ort = s.ort := by
  simp [probeSuccess]
@[simp] theorem probeSuccess_entries (x : Seg) (i : StationNo) : (s.probeSuccess x i).entries = s.entries := by
  simp [probeSuccess]
@[simp] theorem probeSuccess_rst (x : Seg) (i : StationNo) : (s.probeSuccess x i).rst = s.rst := by
  simp [probeSuccess]
@[simp] theorem probeSuccess_segA (x : Seg) (i : StationNo) : (s.probeSuccess x i).segA = s.segA := by
  simp [probeSuccess]
@[simp] theorem probeSuccess_segB (x : Seg) (i : StationNo) : (s.probeSuccess x i).segB = s.segB := by
  simp [probeSuccess]
@[simp] theorem probeSuccess_rtp (x : Seg) (i : StationNo) : (s.probeSuccess x i).rtp = s.rtp := by
  simp [probeSuccess]
@[simp] theorem probeSuccess_mga (x : Seg) (i : StationNo) : (s.probeSuccess x i).mga = s.mga := by
  simp [probeSuccess]
@[simp] theorem probeSuccess_counters (x : Seg) (i : StationNo) : (s.probeSuccess x i).counters = s.counters := by
  simp [probeSuccess]
@[simp] theorem probeSuccess_upRx (x : Seg) (i : StationNo) : (s.probeSuccess x i).upRx = s.upRx := by
  simp [probeSuccess]
@[simp] theorem probeSuccess_resetAsserted (x : Seg) (i : StationNo) : (s.probeSuccess x i).resetAsserted = s.resetAsserted := by
  simp [probeSuccess]
@[simp] theorem probeSuccess_freeIndex (x : Seg) (i : StationNo) : (s.probeSuccess x i).freeIndex = s.freeIndex := by
  simp [probeSuccess]
@[simp] theorem probeSuccess_pending (x : Seg) (i : StationNo) : (s.probeSuccess x i).pending = s.pending := by
  simp [probeSuccess]
@[simp] theorem probeSuccess_slot (x : Seg) (i : StationNo) (v : Tag) : (s.probeSuccess x i).slot v = s.slot v := by
  simp [probeSuccess]
@[simp] theorem probeSuccess_entry (x : Seg) (i : StationNo) (n : EntryNo) : (s.probeSuccess x i).entry n = s.entry n := by
  simp [probeSuccess]
@[simp] theorem probeSuccess_record (x : Seg) (i : StationNo) (n : RecordNo) : (s.probeSuccess x i).record n = s.record n := by
  simp [probeSuccess]
@[simp] theorem probeSuccess_seg (x : Seg) (i : StationNo) (y : Seg) : (s.probeSuccess x i).seg y = s.seg y := by
  simp [probeSuccess]

/-! ### turnAway -/

@[simp] theorem turnAway_segA (t : Tag) (st : Status) : (s.turnAway t st).segA = s.segA := by
  simp [turnAway]
@[simp] theorem turnAway_segB (t : Tag) (st : Status) : (s.turnAway t st).segB = s.segB := by
  simp [turnAway]
@[simp] theorem turnAway_stations (t : Tag) (st : Status) : (s.turnAway t st).stations = s.stations := by
  simp [turnAway]
@[simp] theorem turnAway_counters (t : Tag) (st : Status) : (s.turnAway t st).counters = s.counters := by
  simp [turnAway]
@[simp] theorem turnAway_upRx (t : Tag) (st : Status) : (s.turnAway t st).upRx = s.upRx := by
  simp [turnAway]
@[simp] theorem turnAway_resetAsserted (t : Tag) (st : Status) : (s.turnAway t st).resetAsserted = s.resetAsserted := by
  simp [turnAway]
@[simp] theorem turnAway_freeIndex (t : Tag) (st : Status) : (s.turnAway t st).freeIndex = s.freeIndex := by
  simp [turnAway]
@[simp] theorem turnAway_pending (t : Tag) (st : Status) : (s.turnAway t st).pending = s.pending := by
  simp [turnAway]
@[simp] theorem turnAway_station (t : Tag) (st : Status) (n : StationNo) : (s.turnAway t st).station n = s.station n := by
  simp [turnAway]
@[simp] theorem turnAway_seg (t : Tag) (st : Status) (y : Seg) : (s.turnAway t st).seg y = s.seg y := by
  simp [turnAway]
@[simp] theorem turnAway_frameBuffers (t : Tag) (st : Status) : (s.turnAway t st).ort.frameBuffers = s.ort.frameBuffers := by
  simp [turnAway]
@[simp] theorem turnAway_mgmtBuffers (t : Tag) (st : Status) : (s.turnAway t st).ort.mgmtBuffers = s.ort.mgmtBuffers := by
  simp [turnAway]
@[simp] theorem turnAway_clashQueue (t : Tag) (st : Status) : (s.turnAway t st).ort.clashQueue = s.ort.clashQueue := by
  simp [turnAway]

/-! ### handOn -/

@[simp] theorem handOn_segA (t : Tag) (o : Status × Reason × PayloadSource) : (s.handOn t o).segA = s.segA := by
  simp [handOn]
@[simp] theorem handOn_segB (t : Tag) (o : Status × Reason × PayloadSource) : (s.handOn t o).segB = s.segB := by
  simp [handOn]
@[simp] theorem handOn_stations (t : Tag) (o : Status × Reason × PayloadSource) : (s.handOn t o).stations = s.stations := by
  simp [handOn]
@[simp] theorem handOn_upRx (t : Tag) (o : Status × Reason × PayloadSource) : (s.handOn t o).upRx = s.upRx := by
  simp [handOn]
@[simp] theorem handOn_resetAsserted (t : Tag) (o : Status × Reason × PayloadSource) : (s.handOn t o).resetAsserted = s.resetAsserted := by
  simp [handOn]
@[simp] theorem handOn_freeIndex (t : Tag) (o : Status × Reason × PayloadSource) : (s.handOn t o).freeIndex = s.freeIndex := by
  simp [handOn]
@[simp] theorem handOn_pending (t : Tag) (o : Status × Reason × PayloadSource) : (s.handOn t o).pending = s.pending := by
  simp [handOn]
@[simp] theorem handOn_station (t : Tag) (o : Status × Reason × PayloadSource) (n : StationNo) : (s.handOn t o).station n = s.station n := by
  simp [handOn]
@[simp] theorem handOn_seg (t : Tag) (o : Status × Reason × PayloadSource) (y : Seg) : (s.handOn t o).seg y = s.seg y := by
  simp [handOn]
@[simp] theorem handOn_frameBuffers (t : Tag) (o : Status × Reason × PayloadSource) : (s.handOn t o).ort.frameBuffers = s.ort.frameBuffers := by
  simp [handOn]
@[simp] theorem handOn_mgmtBuffers (t : Tag) (o : Status × Reason × PayloadSource) : (s.handOn t o).ort.mgmtBuffers = s.ort.mgmtBuffers := by
  simp [handOn]
@[simp] theorem handOn_clashQueue (t : Tag) (o : Status × Reason × PayloadSource) : (s.handOn t o).ort.clashQueue = s.ort.clashQueue := by
  simp [handOn]

/-! ### storeResponse -/

@[simp] theorem storeResponse_entries (t : Tag) (p : List Byte) : (s.storeResponse t p).entries = s.entries := by
  unfold storeResponse; split <;> simp
@[simp] theorem storeResponse_rst (t : Tag) (p : List Byte) : (s.storeResponse t p).rst = s.rst := by
  unfold storeResponse; split <;> simp
@[simp] theorem storeResponse_segA (t : Tag) (p : List Byte) : (s.storeResponse t p).segA = s.segA := by
  unfold storeResponse; split <;> simp
@[simp] theorem storeResponse_segB (t : Tag) (p : List Byte) : (s.storeResponse t p).segB = s.segB := by
  unfold storeResponse; split <;> simp
@[simp] theorem storeResponse_stations (t : Tag) (p : List Byte) : (s.storeResponse t p).stations = s.stations := by
  unfold storeResponse; split <;> simp
@[simp] theorem storeResponse_rtp (t : Tag) (p : List Byte) : (s.storeResponse t p).rtp = s.rtp := by
  unfold storeResponse; split <;> simp
@[simp] theorem storeResponse_ntu (t : Tag) (p : List Byte) : (s.storeResponse t p).ntu = s.ntu := by
  unfold storeResponse; split <;> simp
@[simp] theorem storeResponse_mga (t : Tag) (p : List Byte) : (s.storeResponse t p).mga = s.mga := by
  unfold storeResponse; split <;> simp
@[simp] theorem storeResponse_counters (t : Tag) (p : List Byte) : (s.storeResponse t p).counters = s.counters := by
  unfold storeResponse; split <;> simp
@[simp] theorem storeResponse_upRx (t : Tag) (p : List Byte) : (s.storeResponse t p).upRx = s.upRx := by
  unfold storeResponse; split <;> simp
@[simp] theorem storeResponse_resetAsserted (t : Tag) (p : List Byte) : (s.storeResponse t p).resetAsserted = s.resetAsserted := by
  unfold storeResponse; split <;> simp
@[simp] theorem storeResponse_freeIndex (t : Tag) (p : List Byte) : (s.storeResponse t p).freeIndex = s.freeIndex := by
  unfold storeResponse; split <;> simp
@[simp] theorem storeResponse_pending (t : Tag) (p : List Byte) : (s.storeResponse t p).pending = s.pending := by
  unfold storeResponse; split <;> simp
@[simp] theorem storeResponse_entry (t : Tag) (p : List Byte) (n : EntryNo) : (s.storeResponse t p).entry n = s.entry n := by
  unfold storeResponse; split <;> simp
@[simp] theorem storeResponse_record (t : Tag) (p : List Byte) (n : RecordNo) : (s.storeResponse t p).record n = s.record n := by
  unfold storeResponse; split <;> simp
@[simp] theorem storeResponse_station (t : Tag) (p : List Byte) (n : StationNo) : (s.storeResponse t p).station n = s.station n := by
  unfold storeResponse; split <;> simp
@[simp] theorem storeResponse_seg (t : Tag) (p : List Byte) (y : Seg) : (s.storeResponse t p).seg y = s.seg y := by
  unfold storeResponse; split <;> simp
@[simp] theorem storeResponse_node (t : Tag) (p : List Byte) (n : NodeNo) : (s.storeResponse t p).node n = s.node n := by
  unfold storeResponse; split <;> simp
@[simp] theorem storeResponse_mgmtBuffers (t : Tag) (p : List Byte) : (s.storeResponse t p).ort.mgmtBuffers = s.ort.mgmtBuffers := by
  unfold storeResponse; split <;> simp
@[simp] theorem storeResponse_clashQueue (t : Tag) (p : List Byte) : (s.storeResponse t p).ort.clashQueue = s.ort.clashQueue := by
  unfold storeResponse; split <;> simp

/-! ### countHit -/

@[simp] theorem countHit_ort (e : EntryNo) : (s.countHit e).ort = s.ort := by
  unfold countHit; split <;> simp
@[simp] theorem countHit_rst (e : EntryNo) : (s.countHit e).rst = s.rst := by
  unfold countHit; split <;> simp
@[simp] theorem countHit_segA (e : EntryNo) : (s.countHit e).segA = s.segA := by
  unfold countHit; split <;> simp
@[simp] theorem countHit_segB (e : EntryNo) : (s.countHit e).segB = s.segB := by
  unfold countHit; split <;> simp
@[simp] theorem countHit_stations (e : EntryNo) : (s.countHit e).stations = s.stations := by
  unfold countHit; split <;> simp
@[simp] theorem countHit_rtp (e : EntryNo) : (s.countHit e).rtp = s.rtp := by
  unfold countHit; split <;> simp
@[simp] theorem countHit_mga (e : EntryNo) : (s.countHit e).mga = s.mga := by
  unfold countHit; split <;> simp
@[simp] theorem countHit_counters (e : EntryNo) : (s.countHit e).counters = s.counters := by
  unfold countHit; split <;> simp
@[simp] theorem countHit_upRx (e : EntryNo) : (s.countHit e).upRx = s.upRx := by
  unfold countHit; split <;> simp
@[simp] theorem countHit_resetAsserted (e : EntryNo) : (s.countHit e).resetAsserted = s.resetAsserted := by
  unfold countHit; split <;> simp
@[simp] theorem countHit_freeIndex (e : EntryNo) : (s.countHit e).freeIndex = s.freeIndex := by
  unfold countHit; split <;> simp
@[simp] theorem countHit_pending (e : EntryNo) : (s.countHit e).pending = s.pending := by
  unfold countHit; split <;> simp
@[simp] theorem countHit_slot (e : EntryNo) (v : Tag) : (s.countHit e).slot v = s.slot v := by
  unfold countHit; split <;> simp
@[simp] theorem countHit_record (e : EntryNo) (n : RecordNo) : (s.countHit e).record n = s.record n := by
  unfold countHit; split <;> simp
@[simp] theorem countHit_station (e : EntryNo) (n : StationNo) : (s.countHit e).station n = s.station n := by
  unfold countHit; split <;> simp
@[simp] theorem countHit_seg (e : EntryNo) (y : Seg) : (s.countHit e).seg y = s.seg y := by
  unfold countHit; split <;> simp

/-! ### attach -/

@[simp] theorem attach_rst (t : Tag) (e : EntryNo) : (s.attach t e).rst = s.rst := by
  simp [attach]
@[simp] theorem attach_segA (t : Tag) (e : EntryNo) : (s.attach t e).segA = s.segA := by
  simp [attach]
@[simp] theorem attach_segB (t : Tag) (e : EntryNo) : (s.attach t e).segB = s.segB := by
  simp [attach]
@[simp] theorem attach_stations (t : Tag) (e : EntryNo) : (s.attach t e).stations = s.stations := by
  simp [attach]
@[simp] theorem attach_rtp (t : Tag) (e : EntryNo) : (s.attach t e).rtp = s.rtp := by
  simp [attach]
@[simp] theorem attach_ntu (t : Tag) (e : EntryNo) : (s.attach t e).ntu = s.ntu := by
  simp [attach]
@[simp] theorem attach_mga (t : Tag) (e : EntryNo) : (s.attach t e).mga = s.mga := by
  simp [attach]
@[simp] theorem attach_counters (t : Tag) (e : EntryNo) : (s.attach t e).counters = s.counters := by
  simp [attach]
@[simp] theorem attach_upRx (t : Tag) (e : EntryNo) : (s.attach t e).upRx = s.upRx := by
  simp [attach]
@[simp] theorem attach_resetAsserted (t : Tag) (e : EntryNo) : (s.attach t e).resetAsserted = s.resetAsserted := by
  simp [attach]
@[simp] theorem attach_freeIndex (t : Tag) (e : EntryNo) : (s.attach t e).freeIndex = s.freeIndex := by
  simp [attach]
@[simp] theorem attach_pending (t : Tag) (e : EntryNo) : (s.attach t e).pending = s.pending := by
  simp [attach]
@[simp] theorem attach_record (t : Tag) (e : EntryNo) (n : RecordNo) : (s.attach t e).record n = s.record n := by
  simp [attach]
@[simp] theorem attach_station (t : Tag) (e : EntryNo) (n : StationNo) : (s.attach t e).station n = s.station n := by
  simp [attach]
@[simp] theorem attach_seg (t : Tag) (e : EntryNo) (y : Seg) : (s.attach t e).seg y = s.seg y := by
  simp [attach]
@[simp] theorem attach_node (t : Tag) (e : EntryNo) (n : NodeNo) : (s.attach t e).node n = s.node n := by
  simp [attach]
@[simp] theorem attach_frameBuffers (t : Tag) (e : EntryNo) : (s.attach t e).ort.frameBuffers = s.ort.frameBuffers := by
  simp [attach]
@[simp] theorem attach_mgmtBuffers (t : Tag) (e : EntryNo) : (s.attach t e).ort.mgmtBuffers = s.ort.mgmtBuffers := by
  simp [attach]
@[simp] theorem attach_clashQueue (t : Tag) (e : EntryNo) : (s.attach t e).ort.clashQueue = s.ort.clashQueue := by
  simp [attach]

/-! ### mirrorQueued -/

@[simp] theorem mirrorQueued_entries (r : RecordNo) (q : Request) : (s.mirrorQueued r q).entries = s.entries := by
  unfold mirrorQueued; (repeat' split) <;> simp
@[simp] theorem mirrorQueued_segA (r : RecordNo) (q : Request) : (s.mirrorQueued r q).segA = s.segA := by
  unfold mirrorQueued; (repeat' split) <;> simp
@[simp] theorem mirrorQueued_segB (r : RecordNo) (q : Request) : (s.mirrorQueued r q).segB = s.segB := by
  unfold mirrorQueued; (repeat' split) <;> simp
@[simp] theorem mirrorQueued_stations (r : RecordNo) (q : Request) : (s.mirrorQueued r q).stations = s.stations := by
  unfold mirrorQueued; (repeat' split) <;> simp
@[simp] theorem mirrorQueued_rtp (r : RecordNo) (q : Request) : (s.mirrorQueued r q).rtp = s.rtp := by
  unfold mirrorQueued; (repeat' split) <;> simp
@[simp] theorem mirrorQueued_ntu (r : RecordNo) (q : Request) : (s.mirrorQueued r q).ntu = s.ntu := by
  unfold mirrorQueued; (repeat' split) <;> simp
@[simp] theorem mirrorQueued_mga (r : RecordNo) (q : Request) : (s.mirrorQueued r q).mga = s.mga := by
  unfold mirrorQueued; (repeat' split) <;> simp
@[simp] theorem mirrorQueued_counters (r : RecordNo) (q : Request) : (s.mirrorQueued r q).counters = s.counters := by
  unfold mirrorQueued; (repeat' split) <;> simp
@[simp] theorem mirrorQueued_upRx (r : RecordNo) (q : Request) : (s.mirrorQueued r q).upRx = s.upRx := by
  unfold mirrorQueued; (repeat' split) <;> simp
@[simp] theorem mirrorQueued_resetAsserted (r : RecordNo) (q : Request) : (s.mirrorQueued r q).resetAsserted = s.resetAsserted := by
  unfold mirrorQueued; (repeat' split) <;> simp
@[simp] theorem mirrorQueued_freeIndex (r : RecordNo) (q : Request) : (s.mirrorQueued r q).freeIndex = s.freeIndex := by
  unfold mirrorQueued; (repeat' split) <;> simp
@[simp] theorem mirrorQueued_pending (r : RecordNo) (q : Request) : (s.mirrorQueued r q).pending = s.pending := by
  unfold mirrorQueued; (repeat' split) <;> simp
@[simp] theorem mirrorQueued_entry (r : RecordNo) (q : Request) (n : EntryNo) : (s.mirrorQueued r q).entry n = s.entry n := by
  unfold mirrorQueued; (repeat' split) <;> simp
@[simp] theorem mirrorQueued_station (r : RecordNo) (q : Request) (n : StationNo) : (s.mirrorQueued r q).station n = s.station n := by
  unfold mirrorQueued; (repeat' split) <;> simp
@[simp] theorem mirrorQueued_seg (r : RecordNo) (q : Request) (y : Seg) : (s.mirrorQueued r q).seg y = s.seg y := by
  unfold mirrorQueued; (repeat' split) <;> simp
@[simp] theorem mirrorQueued_node (r : RecordNo) (q : Request) (n : NodeNo) : (s.mirrorQueued r q).node n = s.node n := by
  unfold mirrorQueued; (repeat' split) <;> simp
@[simp] theorem mirrorQueued_frameBuffers (r : RecordNo) (q : Request) : (s.mirrorQueued r q).ort.frameBuffers = s.ort.frameBuffers := by
  unfold mirrorQueued; (repeat' split) <;> simp
@[simp] theorem mirrorQueued_mgmtBuffers (r : RecordNo) (q : Request) : (s.mirrorQueued r q).ort.mgmtBuffers = s.ort.mgmtBuffers := by
  unfold mirrorQueued; (repeat' split) <;> simp
@[simp] theorem mirrorQueued_clashQueue (r : RecordNo) (q : Request) : (s.mirrorQueued r q).ort.clashQueue = s.ort.clashQueue := by
  unfold mirrorQueued; (repeat' split) <;> simp

/-! ### onAccount -/

@[simp] theorem onAccount_segA (q : Request) (e : Option EntryNo) : (s.onAccount q e).segA = s.segA := by
  unfold onAccount; (repeat' split) <;> simp
@[simp] theorem onAccount_segB (q : Request) (e : Option EntryNo) : (s.onAccount q e).segB = s.segB := by
  unfold onAccount; (repeat' split) <;> simp
@[simp] theorem onAccount_stations (q : Request) (e : Option EntryNo) : (s.onAccount q e).stations = s.stations := by
  unfold onAccount; (repeat' split) <;> simp
@[simp] theorem onAccount_rtp (q : Request) (e : Option EntryNo) : (s.onAccount q e).rtp = s.rtp := by
  unfold onAccount; (repeat' split) <;> simp
@[simp] theorem onAccount_ntu (q : Request) (e : Option EntryNo) : (s.onAccount q e).ntu = s.ntu := by
  unfold onAccount; (repeat' split) <;> simp
@[simp] theorem onAccount_mga (q : Request) (e : Option EntryNo) : (s.onAccount q e).mga = s.mga := by
  unfold onAccount; (repeat' split) <;> simp
@[simp] theorem onAccount_counters (q : Request) (e : Option EntryNo) : (s.onAccount q e).counters = s.counters := by
  unfold onAccount; (repeat' split) <;> simp
@[simp] theorem onAccount_upRx (q : Request) (e : Option EntryNo) : (s.onAccount q e).upRx = s.upRx := by
  unfold onAccount; (repeat' split) <;> simp
@[simp] theorem onAccount_resetAsserted (q : Request) (e : Option EntryNo) : (s.onAccount q e).resetAsserted = s.resetAsserted := by
  unfold onAccount; (repeat' split) <;> simp
@[simp] theorem onAccount_freeIndex (q : Request) (e : Option EntryNo) : (s.onAccount q e).freeIndex = s.freeIndex := by
  unfold onAccount; (repeat' split) <;> simp
@[simp] theorem onAccount_pending (q : Request) (e : Option EntryNo) : (s.onAccount q e).pending = s.pending := by
  unfold onAccount; (repeat' split) <;> simp
@[simp] theorem onAccount_station (q : Request) (e : Option EntryNo) (n : StationNo) : (s.onAccount q e).station n = s.station n := by
  unfold onAccount; (repeat' split) <;> simp
@[simp] theorem onAccount_seg (q : Request) (e : Option EntryNo) (y : Seg) : (s.onAccount q e).seg y = s.seg y := by
  unfold onAccount; (repeat' split) <;> simp
@[simp] theorem onAccount_node (q : Request) (e : Option EntryNo) (n : NodeNo) : (s.onAccount q e).node n = s.node n := by
  unfold onAccount; (repeat' split) <;> simp
@[simp] theorem onAccount_frameBuffers (q : Request) (e : Option EntryNo) : (s.onAccount q e).ort.frameBuffers = s.ort.frameBuffers := by
  unfold onAccount; (repeat' split) <;> simp
@[simp] theorem onAccount_mgmtBuffers (q : Request) (e : Option EntryNo) : (s.onAccount q e).ort.mgmtBuffers = s.ort.mgmtBuffers := by
  unfold onAccount; (repeat' split) <;> simp
@[simp] theorem onAccount_clashQueue (q : Request) (e : Option EntryNo) : (s.onAccount q e).ort.clashQueue = s.ort.clashQueue := by
  unfold onAccount; (repeat' split) <;> simp

/-! ### judgeFreshness -/

@[simp] theorem judgeFreshness_ort (r : RecordNo) : (s.judgeFreshness r).ort = s.ort := by
  unfold judgeFreshness; split <;> simp
@[simp] theorem judgeFreshness_entries (r : RecordNo) : (s.judgeFreshness r).entries = s.entries := by
  unfold judgeFreshness; split <;> simp
@[simp] theorem judgeFreshness_segA (r : RecordNo) : (s.judgeFreshness r).segA = s.segA := by
  unfold judgeFreshness; split <;> simp
@[simp] theorem judgeFreshness_segB (r : RecordNo) : (s.judgeFreshness r).segB = s.segB := by
  unfold judgeFreshness; split <;> simp
@[simp] theorem judgeFreshness_stations (r : RecordNo) : (s.judgeFreshness r).stations = s.stations := by
  unfold judgeFreshness; split <;> simp
@[simp] theorem judgeFreshness_rtp (r : RecordNo) : (s.judgeFreshness r).rtp = s.rtp := by
  unfold judgeFreshness; split <;> simp
@[simp] theorem judgeFreshness_mga (r : RecordNo) : (s.judgeFreshness r).mga = s.mga := by
  unfold judgeFreshness; split <;> simp
@[simp] theorem judgeFreshness_counters (r : RecordNo) : (s.judgeFreshness r).counters = s.counters := by
  unfold judgeFreshness; split <;> simp
@[simp] theorem judgeFreshness_upRx (r : RecordNo) : (s.judgeFreshness r).upRx = s.upRx := by
  unfold judgeFreshness; split <;> simp
@[simp] theorem judgeFreshness_resetAsserted (r : RecordNo) : (s.judgeFreshness r).resetAsserted = s.resetAsserted := by
  unfold judgeFreshness; split <;> simp
@[simp] theorem judgeFreshness_freeIndex (r : RecordNo) : (s.judgeFreshness r).freeIndex = s.freeIndex := by
  unfold judgeFreshness; split <;> simp
@[simp] theorem judgeFreshness_pending (r : RecordNo) : (s.judgeFreshness r).pending = s.pending := by
  unfold judgeFreshness; split <;> simp
@[simp] theorem judgeFreshness_slot (r : RecordNo) (v : Tag) : (s.judgeFreshness r).slot v = s.slot v := by
  unfold judgeFreshness; split <;> simp
@[simp] theorem judgeFreshness_entry (r : RecordNo) (n : EntryNo) : (s.judgeFreshness r).entry n = s.entry n := by
  unfold judgeFreshness; split <;> simp
@[simp] theorem judgeFreshness_station (r : RecordNo) (n : StationNo) : (s.judgeFreshness r).station n = s.station n := by
  unfold judgeFreshness; split <;> simp
@[simp] theorem judgeFreshness_seg (r : RecordNo) (y : Seg) : (s.judgeFreshness r).seg y = s.seg y := by
  unfold judgeFreshness; split <;> simp

/-! ### answerBytes -/

@[simp] theorem answerBytes_entries (t : Tag) (r : RecordNo) (a n : Nat) : (s.answerBytes t r a n).entries = s.entries := by
  unfold answerBytes; split <;> simp
@[simp] theorem answerBytes_segA (t : Tag) (r : RecordNo) (a n : Nat) : (s.answerBytes t r a n).segA = s.segA := by
  unfold answerBytes; split <;> simp
@[simp] theorem answerBytes_segB (t : Tag) (r : RecordNo) (a n : Nat) : (s.answerBytes t r a n).segB = s.segB := by
  unfold answerBytes; split <;> simp
@[simp] theorem answerBytes_stations (t : Tag) (r : RecordNo) (a n : Nat) : (s.answerBytes t r a n).stations = s.stations := by
  unfold answerBytes; split <;> simp
@[simp] theorem answerBytes_ntu (t : Tag) (r : RecordNo) (a n : Nat) : (s.answerBytes t r a n).ntu = s.ntu := by
  unfold answerBytes; split <;> simp
@[simp] theorem answerBytes_mga (t : Tag) (r : RecordNo) (a n : Nat) : (s.answerBytes t r a n).mga = s.mga := by
  unfold answerBytes; split <;> simp
@[simp] theorem answerBytes_counters (t : Tag) (r : RecordNo) (a n : Nat) : (s.answerBytes t r a n).counters = s.counters := by
  unfold answerBytes; split <;> simp
@[simp] theorem answerBytes_upRx (t : Tag) (r : RecordNo) (a n : Nat) : (s.answerBytes t r a n).upRx = s.upRx := by
  unfold answerBytes; split <;> simp
@[simp] theorem answerBytes_resetAsserted (t : Tag) (r : RecordNo) (a n : Nat) : (s.answerBytes t r a n).resetAsserted = s.resetAsserted := by
  unfold answerBytes; split <;> simp
@[simp] theorem answerBytes_freeIndex (t : Tag) (r : RecordNo) (a n : Nat) : (s.answerBytes t r a n).freeIndex = s.freeIndex := by
  unfold answerBytes; split <;> simp
@[simp] theorem answerBytes_pending (t : Tag) (r : RecordNo) (a n : Nat) : (s.answerBytes t r a n).pending = s.pending := by
  unfold answerBytes; split <;> simp
@[simp] theorem answerBytes_entry (t : Tag) (r : RecordNo) (a n : Nat) (m : EntryNo) : (s.answerBytes t r a n).entry m = s.entry m := by
  unfold answerBytes; split <;> simp
@[simp] theorem answerBytes_station (t : Tag) (r : RecordNo) (a n : Nat) (m : StationNo) : (s.answerBytes t r a n).station m = s.station m := by
  unfold answerBytes; split <;> simp
@[simp] theorem answerBytes_seg (t : Tag) (r : RecordNo) (a n : Nat) (y : Seg) : (s.answerBytes t r a n).seg y = s.seg y := by
  unfold answerBytes; split <;> simp
@[simp] theorem answerBytes_node (t : Tag) (r : RecordNo) (a n : Nat) (m : NodeNo) : (s.answerBytes t r a n).node m = s.node m := by
  unfold answerBytes; split <;> simp
@[simp] theorem answerBytes_frameBuffers (t : Tag) (r : RecordNo) (a n : Nat) : (s.answerBytes t r a n).ort.frameBuffers = s.ort.frameBuffers := by
  unfold answerBytes; split <;> simp
@[simp] theorem answerBytes_mgmtBuffers (t : Tag) (r : RecordNo) (a n : Nat) : (s.answerBytes t r a n).ort.mgmtBuffers = s.ort.mgmtBuffers := by
  unfold answerBytes; split <;> simp
@[simp] theorem answerBytes_clashQueue (t : Tag) (r : RecordNo) (a n : Nat) : (s.answerBytes t r a n).ort.clashQueue = s.ort.clashQueue := by
  unfold answerBytes; split <;> simp

/-! ### overtake -/

@[simp] theorem overtake_entries (t : Tag) (c : CommandObject) : (s.overtake t c).entries = s.entries := by
  simp [overtake]
@[simp] theorem overtake_rst (t : Tag) (c : CommandObject) : (s.overtake t c).rst = s.rst := by
  simp [overtake]
@[simp] theorem overtake_segA (t : Tag) (c : CommandObject) : (s.overtake t c).segA = s.segA := by
  simp [overtake]
@[simp] theorem overtake_segB (t : Tag) (c : CommandObject) : (s.overtake t c).segB = s.segB := by
  simp [overtake]
@[simp] theorem overtake_stations (t : Tag) (c : CommandObject) : (s.overtake t c).stations = s.stations := by
  simp [overtake]
@[simp] theorem overtake_counters (t : Tag) (c : CommandObject) : (s.overtake t c).counters = s.counters := by
  simp [overtake]
@[simp] theorem overtake_upRx (t : Tag) (c : CommandObject) : (s.overtake t c).upRx = s.upRx := by
  simp [overtake]
@[simp] theorem overtake_resetAsserted (t : Tag) (c : CommandObject) : (s.overtake t c).resetAsserted = s.resetAsserted := by
  simp [overtake]
@[simp] theorem overtake_freeIndex (t : Tag) (c : CommandObject) : (s.overtake t c).freeIndex = s.freeIndex := by
  simp [overtake]
@[simp] theorem overtake_pending (t : Tag) (c : CommandObject) : (s.overtake t c).pending = s.pending := by
  simp [overtake]
@[simp] theorem overtake_entry (t : Tag) (c : CommandObject) (n : EntryNo) : (s.overtake t c).entry n = s.entry n := by
  simp [overtake]
@[simp] theorem overtake_record (t : Tag) (c : CommandObject) (n : RecordNo) : (s.overtake t c).record n = s.record n := by
  simp [overtake]
@[simp] theorem overtake_station (t : Tag) (c : CommandObject) (n : StationNo) : (s.overtake t c).station n = s.station n := by
  simp [overtake]
@[simp] theorem overtake_seg (t : Tag) (c : CommandObject) (y : Seg) : (s.overtake t c).seg y = s.seg y := by
  simp [overtake]
@[simp] theorem overtake_frameBuffers (t : Tag) (c : CommandObject) : (s.overtake t c).ort.frameBuffers = s.ort.frameBuffers := by
  simp [overtake]
@[simp] theorem overtake_mgmtBuffers (t : Tag) (c : CommandObject) : (s.overtake t c).ort.mgmtBuffers = s.ort.mgmtBuffers := by
  simp [overtake]
@[simp] theorem overtake_clashQueue (t : Tag) (c : CommandObject) : (s.overtake t c).ort.clashQueue = s.ort.clashQueue := by
  simp [overtake]

/-! ### refuse -/

@[simp] theorem refuse_entries (q : Request) (st : Status) (rs : Reason) : (s.refuse q st rs).entries = s.entries := by
  simp [refuse]
@[simp] theorem refuse_rst (q : Request) (st : Status) (rs : Reason) : (s.refuse q st rs).rst = s.rst := by
  simp [refuse]
@[simp] theorem refuse_segA (q : Request) (st : Status) (rs : Reason) : (s.refuse q st rs).segA = s.segA := by
  simp [refuse]
@[simp] theorem refuse_segB (q : Request) (st : Status) (rs : Reason) : (s.refuse q st rs).segB = s.segB := by
  simp [refuse]
@[simp] theorem refuse_stations (q : Request) (st : Status) (rs : Reason) : (s.refuse q st rs).stations = s.stations := by
  simp [refuse]
@[simp] theorem refuse_mga (q : Request) (st : Status) (rs : Reason) : (s.refuse q st rs).mga = s.mga := by
  simp [refuse]
@[simp] theorem refuse_counters (q : Request) (st : Status) (rs : Reason) : (s.refuse q st rs).counters = s.counters := by
  simp [refuse]
@[simp] theorem refuse_upRx (q : Request) (st : Status) (rs : Reason) : (s.refuse q st rs).upRx = s.upRx := by
  simp [refuse]
@[simp] theorem refuse_resetAsserted (q : Request) (st : Status) (rs : Reason) : (s.refuse q st rs).resetAsserted = s.resetAsserted := by
  simp [refuse]
@[simp] theorem refuse_freeIndex (q : Request) (st : Status) (rs : Reason) : (s.refuse q st rs).freeIndex = s.freeIndex := by
  simp [refuse]
@[simp] theorem refuse_pending (q : Request) (st : Status) (rs : Reason) : (s.refuse q st rs).pending = s.pending := by
  simp [refuse]
@[simp] theorem refuse_entry (q : Request) (st : Status) (rs : Reason) (n : EntryNo) : (s.refuse q st rs).entry n = s.entry n := by
  simp [refuse]
@[simp] theorem refuse_record (q : Request) (st : Status) (rs : Reason) (n : RecordNo) : (s.refuse q st rs).record n = s.record n := by
  simp [refuse]
@[simp] theorem refuse_station (q : Request) (st : Status) (rs : Reason) (n : StationNo) : (s.refuse q st rs).station n = s.station n := by
  simp [refuse]
@[simp] theorem refuse_seg (q : Request) (st : Status) (rs : Reason) (y : Seg) : (s.refuse q st rs).seg y = s.seg y := by
  simp [refuse]
@[simp] theorem refuse_frameBuffers (q : Request) (st : Status) (rs : Reason) : (s.refuse q st rs).ort.frameBuffers = s.ort.frameBuffers := by
  simp [refuse]
@[simp] theorem refuse_mgmtBuffers (q : Request) (st : Status) (rs : Reason) : (s.refuse q st rs).ort.mgmtBuffers = s.ort.mgmtBuffers := by
  simp [refuse]
@[simp] theorem refuse_clashQueue (q : Request) (st : Status) (rs : Reason) : (s.refuse q st rs).ort.clashQueue = s.ort.clashQueue := by
  simp [refuse]

/-! ### capture -/

@[simp] theorem capture_entries (q : Request) (v : List Byte) : (s.capture q v).entries = s.entries := by
  unfold capture; dsimp only; split <;> simp
@[simp] theorem capture_rst (q : Request) (v : List Byte) : (s.capture q v).rst = s.rst := by
  unfold capture; dsimp only; split <;> simp
@[simp] theorem capture_segA (q : Request) (v : List Byte) : (s.capture q v).segA = s.segA := by
  unfold capture; dsimp only; split <;> simp
@[simp] theorem capture_segB (q : Request) (v : List Byte) : (s.capture q v).segB = s.segB := by
  unfold capture; dsimp only; split <;> simp
@[simp] theorem capture_stations (q : Request) (v : List Byte) : (s.capture q v).stations = s.stations := by
  unfold capture; dsimp only; split <;> simp
@[simp] theorem capture_ntu (q : Request) (v : List Byte) : (s.capture q v).ntu = s.ntu := by
  unfold capture; dsimp only; split <;> simp
@[simp] theorem capture_mga (q : Request) (v : List Byte) : (s.capture q v).mga = s.mga := by
  unfold capture; dsimp only; split <;> simp
@[simp] theorem capture_counters (q : Request) (v : List Byte) : (s.capture q v).counters = s.counters := by
  unfold capture; dsimp only; split <;> simp
@[simp] theorem capture_upRx (q : Request) (v : List Byte) : (s.capture q v).upRx = s.upRx := by
  unfold capture; dsimp only; split <;> simp
@[simp] theorem capture_resetAsserted (q : Request) (v : List Byte) : (s.capture q v).resetAsserted = s.resetAsserted := by
  unfold capture; dsimp only; split <;> simp
@[simp] theorem capture_freeIndex (q : Request) (v : List Byte) : (s.capture q v).freeIndex = s.freeIndex := by
  unfold capture; dsimp only; split <;> simp
@[simp] theorem capture_pending (q : Request) (v : List Byte) : (s.capture q v).pending = s.pending := by
  unfold capture; dsimp only; split <;> simp
@[simp] theorem capture_entry (q : Request) (v : List Byte) (n : EntryNo) : (s.capture q v).entry n = s.entry n := by
  unfold capture; dsimp only; split <;> simp
@[simp] theorem capture_record (q : Request) (v : List Byte) (n : RecordNo) : (s.capture q v).record n = s.record n := by
  unfold capture; dsimp only; split <;> simp
@[simp] theorem capture_station (q : Request) (v : List Byte) (n : StationNo) : (s.capture q v).station n = s.station n := by
  unfold capture; dsimp only; split <;> simp
@[simp] theorem capture_seg (q : Request) (v : List Byte) (y : Seg) : (s.capture q v).seg y = s.seg y := by
  unfold capture; dsimp only; split <;> simp
@[simp] theorem capture_node (q : Request) (v : List Byte) (n : NodeNo) : (s.capture q v).node n = s.node n := by
  unfold capture; dsimp only; split <;> simp
@[simp] theorem capture_frameBuffers (q : Request) (v : List Byte) : (s.capture q v).ort.frameBuffers = s.ort.frameBuffers := by
  unfold capture; dsimp only; split <;> simp
@[simp] theorem capture_clashQueue (q : Request) (v : List Byte) : (s.capture q v).ort.clashQueue = s.ort.clashQueue := by
  unfold capture; dsimp only; split <;> simp

/-! ### unpin -/

@[simp] theorem unpin_ort (t : Tag) : (s.unpin t).ort = s.ort := by
  unfold unpin; split <;> simp
@[simp] theorem unpin_entries (t : Tag) : (s.unpin t).entries = s.entries := by
  unfold unpin; split <;> simp
@[simp] theorem unpin_segA (t : Tag) : (s.unpin t).segA = s.segA := by
  unfold unpin; split <;> simp
@[simp] theorem unpin_segB (t : Tag) : (s.unpin t).segB = s.segB := by
  unfold unpin; split <;> simp
@[simp] theorem unpin_stations (t : Tag) : (s.unpin t).stations = s.stations := by
  unfold unpin; split <;> simp
@[simp] theorem unpin_rtp (t : Tag) : (s.unpin t).rtp = s.rtp := by
  unfold unpin; split <;> simp
@[simp] theorem unpin_ntu (t : Tag) : (s.unpin t).ntu = s.ntu := by
  unfold unpin; split <;> simp
@[simp] theorem unpin_mga (t : Tag) : (s.unpin t).mga = s.mga := by
  unfold unpin; split <;> simp
@[simp] theorem unpin_counters (t : Tag) : (s.unpin t).counters = s.counters := by
  unfold unpin; split <;> simp
@[simp] theorem unpin_upRx (t : Tag) : (s.unpin t).upRx = s.upRx := by
  unfold unpin; split <;> simp
@[simp] theorem unpin_resetAsserted (t : Tag) : (s.unpin t).resetAsserted = s.resetAsserted := by
  unfold unpin; split <;> simp
@[simp] theorem unpin_freeIndex (t : Tag) : (s.unpin t).freeIndex = s.freeIndex := by
  unfold unpin; split <;> simp
@[simp] theorem unpin_pending (t : Tag) : (s.unpin t).pending = s.pending := by
  unfold unpin; split <;> simp
@[simp] theorem unpin_slot (t : Tag) (v : Tag) : (s.unpin t).slot v = s.slot v := by
  unfold unpin; split <;> simp
@[simp] theorem unpin_entry (t : Tag) (n : EntryNo) : (s.unpin t).entry n = s.entry n := by
  unfold unpin; split <;> simp
@[simp] theorem unpin_station (t : Tag) (n : StationNo) : (s.unpin t).station n = s.station n := by
  unfold unpin; split <;> simp
@[simp] theorem unpin_seg (t : Tag) (y : Seg) : (s.unpin t).seg y = s.seg y := by
  unfold unpin; split <;> simp
@[simp] theorem unpin_node (t : Tag) (n : NodeNo) : (s.unpin t).node n = s.node n := by
  unfold unpin; split <;> simp

/-! ### freeSlot -/

@[simp] theorem freeSlot_entries (t : Tag) : (s.freeSlot t).entries = s.entries := by
  simp [freeSlot]
@[simp] theorem freeSlot_segA (t : Tag) : (s.freeSlot t).segA = s.segA := by
  simp [freeSlot]
@[simp] theorem freeSlot_segB (t : Tag) : (s.freeSlot t).segB = s.segB := by
  simp [freeSlot]
@[simp] theorem freeSlot_stations (t : Tag) : (s.freeSlot t).stations = s.stations := by
  simp [freeSlot]
@[simp] theorem freeSlot_rtp (t : Tag) : (s.freeSlot t).rtp = s.rtp := by
  simp [freeSlot]
@[simp] theorem freeSlot_ntu (t : Tag) : (s.freeSlot t).ntu = s.ntu := by
  simp [freeSlot]
@[simp] theorem freeSlot_mga (t : Tag) : (s.freeSlot t).mga = s.mga := by
  simp [freeSlot]
@[simp] theorem freeSlot_counters (t : Tag) : (s.freeSlot t).counters = s.counters := by
  simp [freeSlot]
@[simp] theorem freeSlot_upRx (t : Tag) : (s.freeSlot t).upRx = s.upRx := by
  simp [freeSlot]
@[simp] theorem freeSlot_resetAsserted (t : Tag) : (s.freeSlot t).resetAsserted = s.resetAsserted := by
  simp [freeSlot]
@[simp] theorem freeSlot_freeIndex (t : Tag) : (s.freeSlot t).freeIndex = s.freeIndex := by
  simp [freeSlot]
@[simp] theorem freeSlot_pending (t : Tag) : (s.freeSlot t).pending = s.pending := by
  simp [freeSlot]
@[simp] theorem freeSlot_entry (t : Tag) (n : EntryNo) : (s.freeSlot t).entry n = s.entry n := by
  simp [freeSlot]
@[simp] theorem freeSlot_station (t : Tag) (n : StationNo) : (s.freeSlot t).station n = s.station n := by
  simp [freeSlot]
@[simp] theorem freeSlot_seg (t : Tag) (y : Seg) : (s.freeSlot t).seg y = s.seg y := by
  simp [freeSlot]
@[simp] theorem freeSlot_node (t : Tag) (n : NodeNo) : (s.freeSlot t).node n = s.node n := by
  simp [freeSlot]
@[simp] theorem freeSlot_frameBuffers (t : Tag) : (s.freeSlot t).ort.frameBuffers = s.ort.frameBuffers := by
  simp [freeSlot]
@[simp] theorem freeSlot_mgmtBuffers (t : Tag) : (s.freeSlot t).ort.mgmtBuffers = s.ort.mgmtBuffers := by
  simp [freeSlot]
@[simp] theorem freeSlot_clashQueue (t : Tag) : (s.freeSlot t).ort.clashQueue = s.ort.clashQueue := by
  simp [freeSlot]

/-! ### startNotice -/

@[simp] theorem startNotice_ort (k : NodeNo) : (s.startNotice k).ort = s.ort := by
  simp [startNotice]
@[simp] theorem startNotice_entries (k : NodeNo) : (s.startNotice k).entries = s.entries := by
  simp [startNotice]
@[simp] theorem startNotice_rst (k : NodeNo) : (s.startNotice k).rst = s.rst := by
  simp [startNotice]
@[simp] theorem startNotice_segA (k : NodeNo) : (s.startNotice k).segA = s.segA := by
  simp [startNotice]
@[simp] theorem startNotice_segB (k : NodeNo) : (s.startNotice k).segB = s.segB := by
  simp [startNotice]
@[simp] theorem startNotice_stations (k : NodeNo) : (s.startNotice k).stations = s.stations := by
  simp [startNotice]
@[simp] theorem startNotice_mga (k : NodeNo) : (s.startNotice k).mga = s.mga := by
  simp [startNotice]
@[simp] theorem startNotice_counters (k : NodeNo) : (s.startNotice k).counters = s.counters := by
  simp [startNotice]
@[simp] theorem startNotice_upRx (k : NodeNo) : (s.startNotice k).upRx = s.upRx := by
  simp [startNotice]
@[simp] theorem startNotice_resetAsserted (k : NodeNo) : (s.startNotice k).resetAsserted = s.resetAsserted := by
  simp [startNotice]
@[simp] theorem startNotice_freeIndex (k : NodeNo) : (s.startNotice k).freeIndex = s.freeIndex := by
  simp [startNotice]
@[simp] theorem startNotice_pending (k : NodeNo) : (s.startNotice k).pending = s.pending := by
  simp [startNotice]
@[simp] theorem startNotice_slot (k : NodeNo) (v : Tag) : (s.startNotice k).slot v = s.slot v := by
  simp [startNotice]
@[simp] theorem startNotice_entry (k : NodeNo) (n : EntryNo) : (s.startNotice k).entry n = s.entry n := by
  simp [startNotice]
@[simp] theorem startNotice_record (k : NodeNo) (n : RecordNo) : (s.startNotice k).record n = s.record n := by
  simp [startNotice]
@[simp] theorem startNotice_station (k : NodeNo) (n : StationNo) : (s.startNotice k).station n = s.station n := by
  simp [startNotice]
@[simp] theorem startNotice_seg (k : NodeNo) (y : Seg) : (s.startNotice k).seg y = s.seg y := by
  simp [startNotice]

/-! ### startResponse -/

@[simp] theorem startResponse_entries (t : Tag) (q : List Tag) : (s.startResponse t q).entries = s.entries := by
  simp [startResponse]
@[simp] theorem startResponse_rst (t : Tag) (q : List Tag) : (s.startResponse t q).rst = s.rst := by
  simp [startResponse]
@[simp] theorem startResponse_segA (t : Tag) (q : List Tag) : (s.startResponse t q).segA = s.segA := by
  simp [startResponse]
@[simp] theorem startResponse_segB (t : Tag) (q : List Tag) : (s.startResponse t q).segB = s.segB := by
  simp [startResponse]
@[simp] theorem startResponse_stations (t : Tag) (q : List Tag) : (s.startResponse t q).stations = s.stations := by
  simp [startResponse]
@[simp] theorem startResponse_ntu (t : Tag) (q : List Tag) : (s.startResponse t q).ntu = s.ntu := by
  simp [startResponse]
@[simp] theorem startResponse_mga (t : Tag) (q : List Tag) : (s.startResponse t q).mga = s.mga := by
  simp [startResponse]
@[simp] theorem startResponse_counters (t : Tag) (q : List Tag) : (s.startResponse t q).counters = s.counters := by
  simp [startResponse]
@[simp] theorem startResponse_upRx (t : Tag) (q : List Tag) : (s.startResponse t q).upRx = s.upRx := by
  simp [startResponse]
@[simp] theorem startResponse_resetAsserted (t : Tag) (q : List Tag) : (s.startResponse t q).resetAsserted = s.resetAsserted := by
  simp [startResponse]
@[simp] theorem startResponse_freeIndex (t : Tag) (q : List Tag) : (s.startResponse t q).freeIndex = s.freeIndex := by
  simp [startResponse]
@[simp] theorem startResponse_pending (t : Tag) (q : List Tag) : (s.startResponse t q).pending = s.pending := by
  simp [startResponse]
@[simp] theorem startResponse_entry (t : Tag) (q : List Tag) (n : EntryNo) : (s.startResponse t q).entry n = s.entry n := by
  simp [startResponse]
@[simp] theorem startResponse_record (t : Tag) (q : List Tag) (n : RecordNo) : (s.startResponse t q).record n = s.record n := by
  simp [startResponse]
@[simp] theorem startResponse_station (t : Tag) (q : List Tag) (n : StationNo) : (s.startResponse t q).station n = s.station n := by
  simp [startResponse]
@[simp] theorem startResponse_seg (t : Tag) (q : List Tag) (y : Seg) : (s.startResponse t q).seg y = s.seg y := by
  simp [startResponse]
@[simp] theorem startResponse_node (t : Tag) (q : List Tag) (n : NodeNo) : (s.startResponse t q).node n = s.node n := by
  simp [startResponse]
@[simp] theorem startResponse_frameBuffers (t : Tag) (q : List Tag) : (s.startResponse t q).ort.frameBuffers = s.ort.frameBuffers := by
  simp [startResponse]
@[simp] theorem startResponse_mgmtBuffers (t : Tag) (q : List Tag) : (s.startResponse t q).ort.mgmtBuffers = s.ort.mgmtBuffers := by
  simp [startResponse]
@[simp] theorem startResponse_clashQueue (t : Tag) (q : List Tag) : (s.startResponse t q).ort.clashQueue = s.ort.clashQueue := by
  simp [startResponse]

/-! ### arbiter -/

@[simp] theorem arbiter_entries : s.arbiter.entries = s.entries := by
  unfold arbiter; split <;> simp
@[simp] theorem arbiter_rst : s.arbiter.rst = s.rst := by
  unfold arbiter; split <;> simp
@[simp] theorem arbiter_segA : s.arbiter.segA = s.segA := by
  unfold arbiter; split <;> simp
@[simp] theorem arbiter_segB : s.arbiter.segB = s.segB := by
  unfold arbiter; split <;> simp
@[simp] theorem arbiter_stations : s.arbiter.stations = s.stations := by
  unfold arbiter; split <;> simp
@[simp] theorem arbiter_mga : s.arbiter.mga = s.mga := by
  unfold arbiter; split <;> simp
@[simp] theorem arbiter_counters : s.arbiter.counters = s.counters := by
  unfold arbiter; split <;> simp
@[simp] theorem arbiter_upRx : s.arbiter.upRx = s.upRx := by
  unfold arbiter; split <;> simp
@[simp] theorem arbiter_resetAsserted : s.arbiter.resetAsserted = s.resetAsserted := by
  unfold arbiter; split <;> simp
@[simp] theorem arbiter_freeIndex : s.arbiter.freeIndex = s.freeIndex := by
  unfold arbiter; split <;> simp
@[simp] theorem arbiter_pending : s.arbiter.pending = s.pending := by
  unfold arbiter; split <;> simp
@[simp] theorem arbiter_entry (n : EntryNo) : s.arbiter.entry n = s.entry n := by
  unfold arbiter; split <;> simp
@[simp] theorem arbiter_record (n : RecordNo) : s.arbiter.record n = s.record n := by
  unfold arbiter; split <;> simp
@[simp] theorem arbiter_station (n : StationNo) : s.arbiter.station n = s.station n := by
  unfold arbiter; split <;> simp
@[simp] theorem arbiter_seg (y : Seg) : s.arbiter.seg y = s.seg y := by
  unfold arbiter; split <;> simp
@[simp] theorem arbiter_frameBuffers : s.arbiter.ort.frameBuffers = s.ort.frameBuffers := by
  unfold arbiter; split <;> simp
@[simp] theorem arbiter_mgmtBuffers : s.arbiter.ort.mgmtBuffers = s.ort.mgmtBuffers := by
  unfold arbiter; split <;> simp
@[simp] theorem arbiter_clashQueue : s.arbiter.ort.clashQueue = s.ort.clashQueue := by
  unfold arbiter; split <;> simp

/-! ### start -/

@[simp] theorem start_entries : s.start.entries = s.entries := by
  unfold start; split <;> simp
@[simp] theorem start_rst : s.start.rst = s.rst := by
  unfold start; split <;> simp
@[simp] theorem start_segA : s.start.segA = s.segA := by
  unfold start; split <;> simp
@[simp] theorem start_segB : s.start.segB = s.segB := by
  unfold start; split <;> simp
@[simp] theorem start_stations : s.start.stations = s.stations := by
  unfold start; split <;> simp
@[simp] theorem start_mga : s.start.mga = s.mga := by
  unfold start; split <;> simp
@[simp] theorem start_counters : s.start.counters = s.counters := by
  unfold start; split <;> simp
@[simp] theorem start_upRx : s.start.upRx = s.upRx := by
  unfold start; split <;> simp
@[simp] theorem start_resetAsserted : s.start.resetAsserted = s.resetAsserted := by
  unfold start; split <;> simp
@[simp] theorem start_freeIndex : s.start.freeIndex = s.freeIndex := by
  unfold start; split <;> simp
@[simp] theorem start_pending : s.start.pending = s.pending := by
  unfold start; split <;> simp
@[simp] theorem start_entry (n : EntryNo) : s.start.entry n = s.entry n := by
  unfold start; split <;> simp
@[simp] theorem start_record (n : RecordNo) : s.start.record n = s.record n := by
  unfold start; split <;> simp
@[simp] theorem start_station (n : StationNo) : s.start.station n = s.station n := by
  unfold start; split <;> simp
@[simp] theorem start_seg (y : Seg) : s.start.seg y = s.seg y := by
  unfold start; split <;> simp
@[simp] theorem start_frameBuffers : s.start.ort.frameBuffers = s.ort.frameBuffers := by
  unfold start; split <;> simp
@[simp] theorem start_mgmtBuffers : s.start.ort.mgmtBuffers = s.ort.mgmtBuffers := by
  unfold start; split <;> simp
@[simp] theorem start_clashQueue : s.start.ort.clashQueue = s.ort.clashQueue := by
  unfold start; split <;> simp

/-! ### beginTransaction -/

@[simp] theorem beginTransaction_entries (x : Seg) (t : Tag) : (s.beginTransaction x t).entries = s.entries := by
  simp [beginTransaction]
@[simp] theorem beginTransaction_rst (x : Seg) (t : Tag) : (s.beginTransaction x t).rst = s.rst := by
  simp [beginTransaction]
@[simp] theorem beginTransaction_stations (x : Seg) (t : Tag) : (s.beginTransaction x t).stations = s.stations := by
  simp [beginTransaction]
@[simp] theorem beginTransaction_rtp (x : Seg) (t : Tag) : (s.beginTransaction x t).rtp = s.rtp := by
  simp [beginTransaction]
@[simp] theorem beginTransaction_ntu (x : Seg) (t : Tag) : (s.beginTransaction x t).ntu = s.ntu := by
  simp [beginTransaction]
@[simp] theorem beginTransaction_mga (x : Seg) (t : Tag) : (s.beginTransaction x t).mga = s.mga := by
  simp [beginTransaction]
@[simp] theorem beginTransaction_counters (x : Seg) (t : Tag) : (s.beginTransaction x t).counters = s.counters := by
  simp [beginTransaction]
@[simp] theorem beginTransaction_upRx (x : Seg) (t : Tag) : (s.beginTransaction x t).upRx = s.upRx := by
  simp [beginTransaction]
@[simp] theorem beginTransaction_resetAsserted (x : Seg) (t : Tag) : (s.beginTransaction x t).resetAsserted = s.resetAsserted := by
  simp [beginTransaction]
@[simp] theorem beginTransaction_freeIndex (x : Seg) (t : Tag) : (s.beginTransaction x t).freeIndex = s.freeIndex := by
  simp [beginTransaction]
@[simp] theorem beginTransaction_pending (x : Seg) (t : Tag) : (s.beginTransaction x t).pending = s.pending := by
  simp [beginTransaction]
@[simp] theorem beginTransaction_entry (x : Seg) (t : Tag) (n : EntryNo) : (s.beginTransaction x t).entry n = s.entry n := by
  simp [beginTransaction]
@[simp] theorem beginTransaction_record (x : Seg) (t : Tag) (n : RecordNo) : (s.beginTransaction x t).record n = s.record n := by
  simp [beginTransaction]
@[simp] theorem beginTransaction_station (x : Seg) (t : Tag) (n : StationNo) : (s.beginTransaction x t).station n = s.station n := by
  simp [beginTransaction]
@[simp] theorem beginTransaction_node (x : Seg) (t : Tag) (n : NodeNo) : (s.beginTransaction x t).node n = s.node n := by
  simp [beginTransaction]
@[simp] theorem beginTransaction_frameBuffers (x : Seg) (t : Tag) : (s.beginTransaction x t).ort.frameBuffers = s.ort.frameBuffers := by
  simp [beginTransaction]
@[simp] theorem beginTransaction_mgmtBuffers (x : Seg) (t : Tag) : (s.beginTransaction x t).ort.mgmtBuffers = s.ort.mgmtBuffers := by
  simp [beginTransaction]
@[simp] theorem beginTransaction_clashQueue (x : Seg) (t : Tag) : (s.beginTransaction x t).ort.clashQueue = s.ort.clashQueue := by
  simp [beginTransaction]
theorem beginTransaction_otherSeg (x : Seg) (t : Tag) (y : Seg) (h : y ≠ x) : (s.beginTransaction x t).seg y = s.seg y := by
  simp [beginTransaction, h]

/-! ### beginProbe -/

@[simp] theorem beginProbe_ort (x : Seg) (i : StationNo) : (s.beginProbe x i).ort = s.ort := by
  simp [beginProbe]
@[simp] theorem beginProbe_entries (x : Seg) (i : StationNo) : (s.beginProbe x i).entries = s.entries := by
  simp [beginProbe]
@[simp] theorem beginProbe_rst (x : Seg) (i : StationNo) : (s.beginProbe x i).rst = s.rst := by
  simp [beginProbe]
@[simp] theorem beginProbe_stations (x : Seg) (i : StationNo) : (s.beginProbe x i).stations = s.stations := by
  simp [beginProbe]
@[simp] theorem beginProbe_rtp (x : Seg) (i : StationNo) : (s.beginProbe x i).rtp = s.rtp := by
  simp [beginProbe]
@[simp] theorem beginProbe_ntu (x : Seg) (i : StationNo) : (s.beginProbe x i).ntu = s.ntu := by
  simp [beginProbe]
@[simp] theorem beginProbe_mga (x : Seg) (i : StationNo) : (s.beginProbe x i).mga = s.mga := by
  simp [beginProbe]
@[simp] theorem beginProbe_counters (x : Seg) (i : StationNo) : (s.beginProbe x i).counters = s.counters := by
  simp [beginProbe]
@[simp] theorem beginProbe_upRx (x : Seg) (i : StationNo) : (s.beginProbe x i).upRx = s.upRx := by
  simp [beginProbe]
@[simp] theorem beginProbe_resetAsserted (x : Seg) (i : StationNo) : (s.beginProbe x i).resetAsserted = s.resetAsserted := by
  simp [beginProbe]
@[simp] theorem beginProbe_freeIndex (x : Seg) (i : StationNo) : (s.beginProbe x i).freeIndex = s.freeIndex := by
  simp [beginProbe]
@[simp] theorem beginProbe_pending (x : Seg) (i : StationNo) : (s.beginProbe x i).pending = s.pending := by
  simp [beginProbe]
@[simp] theorem beginProbe_slot (x : Seg) (i : StationNo) (v : Tag) : (s.beginProbe x i).slot v = s.slot v := by
  simp [beginProbe]
@[simp] theorem beginProbe_entry (x : Seg) (i : StationNo) (n : EntryNo) : (s.beginProbe x i).entry n = s.entry n := by
  simp [beginProbe]
@[simp] theorem beginProbe_record (x : Seg) (i : StationNo) (n : RecordNo) : (s.beginProbe x i).record n = s.record n := by
  simp [beginProbe]
@[simp] theorem beginProbe_station (x : Seg) (i : StationNo) (n : StationNo) : (s.beginProbe x i).station n = s.station n := by
  simp [beginProbe]
@[simp] theorem beginProbe_node (x : Seg) (i : StationNo) (n : NodeNo) : (s.beginProbe x i).node n = s.node n := by
  simp [beginProbe]
theorem beginProbe_otherSeg (x : Seg) (i : StationNo) (y : Seg) (h : y ≠ x) : (s.beginProbe x i).seg y = s.seg y := by
  simp [beginProbe, h]

end Sys2Proof.Machine.State
end

