-- ==== Sys2Proof/Laws/Values.lean ====
section
/-! SUPPORT. What each shared operation writes: one lemma per operation and part of the state it changes. -/

namespace Sys2Proof.Machine.State

variable (s : State)

/-! ### Claims (R70) -/

theorem dropClaim_record (r n : RecordNo) :
    (s.dropClaim r).record n = if n = r then { s.record n with claim := none } else s.record n := by
  unfold dropClaim
  split
  · next h =>
    by_cases e : n = r
    · subst e; simp [← h]
    · simp [e]
  · by_cases e : n = r <;> simp [e]

theorem dropClaim_slot (r : RecordNo) (t : Tag) :
    (s.dropClaim r).slot t
      = if (s.record r).claim = some t then { s.slot t with fillClaim := false } else s.slot t := by
  unfold dropClaim
  split
  · next h => simp [h]
  · next v h => by_cases e : t = v <;> simp [h, e, eq_comm]

theorem dropClaim_store (r : RecordNo) : (s.dropClaim r).rst.store = s.rst.store := by
  unfold dropClaim; split <;> rfl

theorem updRecord_store (r : RecordNo) (f : Record → Record) : (s.updRecord r f).rst.store = s.rst.store := rfl

/-! ### Quiesces (R18, R21) -/

theorem completeQuiesce_none {e : EntryNo} (h : (s.entry e).holder = none) : s.completeQuiesce e = s := by
  simp [completeQuiesce, h]

theorem completeQuiesce_some {e : EntryNo} {t : Tag} (h : (s.entry e).holder = some t) :
    s.completeQuiesce e = (s.updEntry e (fun en => { en with holder := none })).endWait t .done .none := by
  simp [completeQuiesce, h]

/-! ### Captured values (R48, R150) -/

theorem capture_empty {q : Request} {v : List Byte} (h : v.take q.reqLen.toNat = []) :
    s.capture q v = s.respond q.tag .done .none .none := by
  unfold capture
  dsimp only
  split <;> simp_all

theorem capture_bytes {q : Request} {v : List Byte} {k : Fin 4} (h : v.take q.reqLen.toNat ≠ [])
    (hk : (s.slot q.tag).mgmtBuf = some k) :
    s.capture q v = (s.writeMgmtBuffer k (v.take q.reqLen.toNat)).respond q.tag .done .none
      (.management (v.take q.reqLen.toNat).length) := by
  unfold capture
  dsimp only
  split <;> simp_all

theorem capture_rtp (q : Request) (v : List Byte) :
    (s.capture q v).rtp = { s.rtp with queue := s.rtp.queue ++ [q.tag] } := by
  unfold capture; dsimp only; split <;> rfl

theorem capture_slot {q : Request} {v : List Byte} {k : Fin 4} (hk : (s.slot q.tag).mgmtBuf = some k) (t : Tag) :
    (s.capture q v).slot t
      = if t = q.tag then (s.slot t).answered .done .none
          (if v.take q.reqLen.toNat = [] then .none else .management (v.take q.reqLen.toNat).length)
        else s.slot t := by
  by_cases h : v.take q.reqLen.toNat = []
  · rw [s.capture_empty h]; simp [h, Slot.answered]
  · rw [s.capture_bytes h hk]; simp [h, Slot.answered]

theorem capture_otherSlot {q : Request} {v : List Byte} {t : Tag} (h : t ≠ q.tag) :
    (s.capture q v).slot t = s.slot t := by
  unfold capture; dsimp only; split <;> simp [h]

theorem capture_mgmtBuffers {q : Request} {v : List Byte} {k : Fin 4} (hk : (s.slot q.tag).mgmtBuf = some k)
    (j : Fin 4) :
    (s.capture q v).ort.mgmtBuffers[j]
      = if j = k ∧ v.take q.reqLen.toNat ≠ [] then v.take q.reqLen.toNat else s.ort.mgmtBuffers[j] := by
  by_cases h : v.take q.reqLen.toNat = []
  · rw [s.capture_empty h]; simp [h]
  · rw [s.capture_bytes h hk, respond_mgmtBuffers, writeMgmtBuffer_get]; simp [h]

/-- What an accepted write gives its slot: DONE, with the object's value for an EXCHANGE (R151, R152). -/
theorem conclude_done {u : State} {q : Request} {o : MgmtObject} :
    s.conclude q o (.done u)
      = u.capture q (if q.function = fnExchange then (objectValue u q.position.toNat o).getD [] else []) := by
  by_cases h : q.function = fnExchange
  · simp [conclude, h]
  · rw [u.capture_empty (by simp [h])]; simp [conclude, h]

/-! ### Data writes (R60) -/

theorem dataWritten_other {n : RecordNo} {position len : Nat} (h : (s.record n).kind ≠ .mirror) :
    s.dataWritten n position len = s := by
  simp [dataWritten, h]

theorem dataWritten_mirror {n : RecordNo} {position len : Nat} (h : (s.record n).kind = .mirror) :
    s.dataWritten n position len = (s.updRecord n (fun rc =>
      if position = 0 ∧ len = (s.record n).length then rc.validate else rc.invalidate)).dropClaim n := by
  by_cases e : position = 0 ∧ len = (s.record n).length <;> simp [dataWritten, h, e]

end Sys2Proof.Machine.State
end

