-- ==== Sys2Proof/Laws/Requests.lean ====
section
/-! SUPPORT. How a request reaches the block that decides it: one lemma per way in. -/

namespace Sys2Proof.Machine

/-- A frame's fields as its slot takes them, after the receipt. -/
theorem upstreamFrameEnd_of_receives {s : State} {q : Request} (h : s.receives q) :
    execUpstreamFrameEnd s = .next (s.readyRx.countFrame.accept q).start := by
  obtain ⟨h1, h2, h3⟩ := h
  simp [execUpstreamFrameEnd, event, quietEvent, State.upstreamFrameEnd, h1, h2, h3, State.judgeUpstream,
    State.handOver]

/-- A listening receiver takes a whole request frame (log 1). -/
theorem requestEvent_of_listens {s : State} {q : Request} (h : s.listens) (hp : q.payload.length ≤ 240) :
    requestEvent q s = .next (s.readyRx.countFrame.accept q).start := by
  obtain ⟨h1, h2⟩ := h
  cases hs : s.upRx.state <;>
    simp_all [requestEvent, event, quietEvent, State.receiveRequest, State.judgeUpstream, State.handOver]

/-- The acceptance decision of a request to station 127 that gets a management buffer (R36). -/
theorem accept_agent {s : State} {q : Request} {k : Fin 4} (ha : s.admits q.tag) (h127 : q.station = 127)
    (hk : s.freeMgmtBuf = some k) : s.accept q = (s.occupyMgmt q k).manage q := by
  simp [State.accept, ha.1, ha.2, h127, State.toAgent, hk]

/-- The acceptance decision of a request to another station that passes validation (R37, R38). -/
theorem accept_lookup {s : State} {q : Request} (ha : s.admits q.tag) (h127 : q.station ≠ 127)
    (hv : validation q = none) :
    s.accept q = match s.lookup q with
      | none => s.miss q
      | some e => s.hit q e := by
  simp only [State.accept, ha.1, ha.2, State.toStation, hv]
  cases s.lookup q <;> simp [h127]

/-- A management request whose tag is admitted, with its buffer. -/
theorem requestEvent_of_reachesAgent {s : State} {q : Request} {k : Fin 4} (h : s.reachesAgent q.tag k)
    (h127 : q.station = 127) (hp : q.payload.length ≤ 240) :
    requestEvent q s = .next ((s.readyRx.countFrame.occupyMgmt q k).manage q).start := by
  obtain ⟨h1, h2, h3⟩ := h
  rw [requestEvent_of_listens h1 hp, accept_agent (s := s.readyRx.countFrame) h2 h127 h3]

/-- A management write that passes the checks of its function goes to its object (R148 to R152). -/
theorem manage_write {s : State} {q : Request} (h : q.function = fnWrite) :
    s.manage q = s.conclude q (objectOf q.object) (mgmtWrite s q (objectOf q.object)) := by
  simp [State.manage, badLength, knownFunction, h, fnWrite, fnRead, fnPing]

theorem manage_exchange {s : State} {q : Request} (h : q.function = fnExchange) (hl : q.reqLen.toNat ≤ 240) :
    s.manage q = s.conclude q (objectOf q.object) (mgmtWrite s q (objectOf q.object)) := by
  have : ¬ 240 < q.reqLen.toNat := by omega
  simp [State.manage, badLength, knownFunction, h, fnWrite, fnRead, fnPing, fnExchange, this]

/-! ### The object of each number (R149, R156) -/

theorem objectOf_entry : ∀ n, objectOf (entryObject n) = .entry n := by decide
theorem objectOf_descriptor : ∀ n, objectOf (descriptorObject n) = .descriptor n := by decide
theorem objectOf_recordData : ∀ n, objectOf (recordDataObject n) = .recordData n := by decide
theorem objectOf_station : ∀ n, objectOf (stationObject n) = .station n := by decide
theorem objectOf_node : ∀ n, objectOf (nodeObject n) = .node n := by decide
theorem objectOf_segment (x : Seg) : objectOf (segmentObject x) = .segment x := by cases x <;> decide
theorem objectOf_command (c : CommandObject) : objectOf c.number = .command c := by cases c <;> decide

/-! ### Rows that are management requests -/

/-- A management write by a row: its checks of R148 pass, and its object decides it. -/
theorem requestEvent_write {s : State} {h : WriteHead} {w : WriteKind} {o : Half} {p : List Byte} {k : Fin 4}
    (hs : s.reachesAgent h.tag k) (hg : goodLength w h) (hp : p.length ≤ 240) :
    requestEvent (writeRequest h w o p) s
      = .next (((s.readyRx.countFrame.occupyMgmt (writeRequest h w o p) k).conclude (writeRequest h w o p)
          (objectOf o) (mgmtWrite (s.readyRx.countFrame.occupyMgmt (writeRequest h w o p) k)
            (writeRequest h w o p) (objectOf o))).start) := by
  rw [requestEvent_of_reachesAgent (q := writeRequest h w o p) hs rfl hp]
  cases w with
  | write => rw [manage_write rfl]; rfl
  | exchange => rw [manage_exchange rfl (hg rfl)]; rfl

/-- The checks of R151 and R152 that do not depend on the object's block, passed. -/
theorem mgmtWrite_of_checks {s : State} {q : Request} {o : MgmtObject} (hw : o.writable = true)
    (hr : q.function = fnExchange → o.readable = true) (hp : q.position = 0 ∨ o.isData = true)
    (hl : ∀ n, o.writeSize = some n → q.payload.length = n) : mgmtWrite s q o = ownerWrite s q o := by
  have h1 : (q.function = fnExchange && !o.readable) = false := by
    by_cases e : q.function = fnExchange
    · simp [hr e]
    · simp [e]
  have h2 : (decide (q.position ≠ 0) && !o.isData) = false := by
    rcases hp with e | e <;> simp [e]
  have h3 : o.writeSize.any (fun n => q.payload.length ≠ n) = false := by
    cases e : o.writeSize with
    | none => rfl
    | some n => simp [hl n e]
  simp only [mgmtWrite, hw, h1, h2, h3, Bool.not_true, Bool.or_self, Bool.false_eq_true, if_false]

/-- A command by its row, with position 0 and an argument of its size (R156). -/
theorem requestEvent_command {s : State} {h : WriteHead} {c : CommandObject} {p : List Byte} {k : Fin 4}
    (hs : s.reachesAgent h.tag k) (hp : h.position = 0) (hl : p.length = c.argSize) :
    requestEvent (commandRequest h c p) s
      = .next (((s.readyRx.countFrame.occupyMgmt (commandRequest h c p) k).conclude (commandRequest h c p)
          (.command c) (runCommand (s.readyRx.countFrame.occupyMgmt (commandRequest h c p) k) h.tag p c)).start) := by
  have hsize : c.argSize ≤ 240 := by cases c <;> decide
  rw [commandRequest, requestEvent_write hs (by intro e; cases e) (by omega), objectOf_command,
    mgmtWrite_of_checks rfl (by intro e; exact absurd e (by decide : ¬ fnWrite = fnExchange)) (.inl hp)
      (by intro n e; cases e; exact hl)]
  rfl

/-- What an accepted command gives its slot: it is answered DONE (R156). -/
theorem conclude_command_done {s u : State} {h : WriteHead} {c : CommandObject} {p : List Byte} (o : MgmtObject) :
    s.conclude (commandRequest h c p) o (.done u) = u.respond h.tag .done .none .none := by
  simp [State.conclude, commandRequest, writeRequest, fnWrite, fnExchange]

/-- A command that takes effect at once is answered DONE (R156). -/
theorem requestEvent_command_done {s u : State} {h : WriteHead} {c : CommandObject} {p : List Byte} {k : Fin 4}
    (hs : s.reachesAgent h.tag k) (hp : h.position = 0) (hl : p.length = c.argSize)
    (hu : runCommand (s.readyRx.countFrame.occupyMgmt (commandRequest h c p) k) h.tag p c = .done u) :
    requestEvent (commandRequest h c p) s = .next ((u.respond h.tag .done .none .none).start) := by
  rw [requestEvent_command hs hp hl, hu, conclude_command_done]

/-- A command that waits gives no answer yet (R156). -/
theorem requestEvent_command_waits {s u : State} {h : WriteHead} {c : CommandObject} {p : List Byte} {k : Fin 4}
    (hs : s.reachesAgent h.tag k) (hp : h.position = 0) (hl : p.length = c.argSize)
    (hu : runCommand (s.readyRx.countFrame.occupyMgmt (commandRequest h c p) k) h.tag p c = .waits u) :
    requestEvent (commandRequest h c p) s = .next u.start := by
  rw [requestEvent_command hs hp hl, hu]
  rfl

/-- A refused command is answered, and MGMT_REFUSED raised with its object (R158). -/
theorem requestEvent_command_refused {s : State} {h : WriteHead} {c : CommandObject} {p : List Byte} {k : Fin 4}
    {st : Status} {rs : Reason} (hs : s.reachesAgent h.tag k) (hp : h.position = 0) (hl : p.length = c.argSize)
    (hu : runCommand (s.readyRx.countFrame.occupyMgmt (commandRequest h c p) k) h.tag p c = .refused st rs) :
    requestEvent (commandRequest h c p) s
      = .next ((((s.readyRx.countFrame.occupyMgmt (commandRequest h c p) k).respond h.tag st rs .none).raise
          nodeMgmtRefused c.number).start) := by
  rw [requestEvent_command hs hp hl, hu]
  rfl

/-- The number that a byte carries is read back (R177). -/
theorem indexOf_byteOf {n : Nat} (i : Fin n) (h : n ≤ 256) : indexOf n (byteOf i) = some i := by
  have : i.val % 256 = i.val := Nat.mod_eq_of_lt (by omega)
  simp [indexOf, byteOf, BitVec.toNat_ofNat, this]

/-- An entry argument that names a valid entry (R19). -/
theorem entryArg_of_valid {s : State} {e : EntryNo} (hv : (s.entry e).valid = true) :
    s.entryArg (byteOf e) = some e := by
  simp [State.entryArg, indexOf_byteOf, Option.filter, hv]

/-- A segment argument names its segment (R174). -/
theorem segOf_segCode (x : Seg) : segOf (segCode x) = some x := by cases x <;> rfl

/-- A station argument names its record (R177). -/
theorem stationArg_byteOf (i : StationNo) : stationArg (byteOf (stationOf i)) = some i := by
  revert i; decide

/-- The answer of an accepted write, from the state its owner leaves (R151, R152). -/
theorem writeAnswered_capture {s u : State} {q : Request} {k : Fin 4} {value : List Byte} (hr : s.received u)
    (hs : u.slot q.tag = mgmtSlot q k) (hb : s.sameBuffers u) :
    s.writeAnswered (u.capture q (if q.function = fnExchange then value else [])) q k value := by
  have hk : (u.slot q.tag).mgmtBuf = some k := by rw [hs]; rfl
  obtain ⟨h1, h2, h3, h4, h5⟩ := hr
  obtain ⟨b1, b2, b3⟩ := hb
  refine ⟨⟨by simpa using h1, by simpa using h2, by simpa using h3, by simpa using h4, by simpa using h5⟩, ?_,
    fun j => ?_, by simpa using b1, by simpa using b3⟩
  · rw [u.capture_slot hk, if_pos rfl, hs, valueSlot]
    split <;> simp
  · rw [u.capture_mgmtBuffers hk, b2]
    split <;> simp

/-- An accepted write of a row (R151, R152). -/
theorem requestEvent_write_done {s u : State} {h : WriteHead} {w : WriteKind} {o : Half} {p : List Byte} {k : Fin 4}
    {ob : MgmtObject} (hs : s.reachesAgent h.tag k) (hg : goodLength w h) (hp : p.length ≤ 240)
    (ho : objectOf o = ob)
    (hu : mgmtWrite (s.readyRx.countFrame.occupyMgmt (writeRequest h w o p) k) (writeRequest h w o p) ob
      = .done u) :
    requestEvent (writeRequest h w o p) s
      = .next ((u.capture (writeRequest h w o p) (if (writeRequest h w o p).function = fnExchange
          then (objectValue u h.position.toNat ob).getD [] else [])).start) := by
  rw [requestEvent_write hs hg hp, ho, hu, State.conclude_done]
  rfl

end Sys2Proof.Machine
end

