-- ==== Sys2Proof/Laws/Answers.lean ====
section
/-! SUPPORT. What the frames that reach the agent or a steering action come to, and the agent's refusals and
captures. -/

namespace Sys2Proof.Machine

open State

theorem readsBack_iff (f : Byte) : readsBack f = true ↔ (f = 1#8 ∨ f = 3#8) := by revert f; decide

/-! ### Steering (R9, R10) -/

theorem exec_of_reachesAction {s : State} {q : Request} {e : EntryNo} (h : s.reachesAction q e) :
    exec .upstreamFrameEnd s = .next ((((s.readyRx.countFrame).countHit e).act q e).start) := by
  obtain ⟨h1, hl, hh, hb⟩ := h
  rw [show exec .upstreamFrameEnd s = _ from upstreamFrameEnd_of_receives h1.1,
    accept_lookup (s := s.readyRx.countFrame) h1.2.1 h1.2.2.1 h1.2.2.2,
    show s.readyRx.countFrame.lookup q = s.lookup q from rfl, hl]
  simp only [State.hit]
  have : (s.readyRx.countFrame.entry e).gate = none := by
    show (s.entry e).gate = _
    simp [Entry.gate, hh, hb]
  rw [this]

variable (s : State)

theorem countHit_countFrame_ntu (e : EntryNo) : ((s.readyRx.countFrame).countHit e).ntu = (s.countHit e).ntu := by
  unfold State.countHit
  rw [show s.readyRx.countFrame.entry e = s.entry e from rfl]; split <;> rfl

theorem countHit_countFrame_entries (e : EntryNo) :
    ((s.readyRx.countFrame).countHit e).entries = (s.countHit e).entries := by
  unfold State.countHit
  rw [show s.readyRx.countFrame.entry e = s.entry e from rfl]; split <;> rfl

theorem countHit_action (e : EntryNo) : ((s.countHit e).entry e).action = (s.entry e).action := by
  unfold State.countHit; split <;> simp [Entry.countHit]

theorem countHit_exhaustedAction (e : EntryNo) :
    ((s.countHit e).entry e).exhaustedAction = (s.entry e).exhaustedAction := by
  unfold State.countHit; split <;> simp [Entry.countHit]

/-! ### The agent (R36, R150, R158) -/

/-- A request to station 127 that finds a management buffer is decided by the agent. -/
theorem exec_of_agent {s : State} {q : Request} {k : Fin 4} (h : s.receives q) (ha : s.admits q.tag)
    (h127 : q.station = 127) (hk : s.freeMgmtBuf = some k) :
    exec .upstreamFrameEnd s = .next (((s.readyRx.countFrame.occupyMgmt q k).manage q).start) := by
  rw [show exec .upstreamFrameEnd s = _ from upstreamFrameEnd_of_receives h,
    accept_agent (s := s.readyRx.countFrame) ha h127 hk]

/-- A refusal changes what `State.agentRefuses` says. -/
theorem refuse_agentRefuses {q : Request} {k : Fin 4} {st : Status} {rs : Reason} :
    s.agentRefuses ((s.readyRx.countFrame.occupyMgmt q k).refuse q st rs) q k st rs := by
  simp only [State.refuse]
  simp only [State.agentRefuses, State.answers, State.received, State.otherSlots, State.sameBuffers, State.returns,
    State.sameButNotices, Slot.answered]
  simp +contextual

/-- A captured value is the request's answer and the buffer's contents. -/
theorem capture_effect {q : Request} {k : Fin 4} {v : List Byte} :
    s.received ((s.readyRx.countFrame.occupyMgmt q k).capture q v)
      ∧ ((s.readyRx.countFrame.occupyMgmt q k).capture q v).slot q.tag = valueSlot q k (v.take q.reqLen.toNat)
      ∧ s.captured ((s.readyRx.countFrame.occupyMgmt q k).capture q v) k (v.take q.reqLen.toNat)
      ∧ s.otherSlots ((s.readyRx.countFrame.occupyMgmt q k).capture q v) q.tag
      ∧ s.returns ((s.readyRx.countFrame.occupyMgmt q k).capture q v) [q.tag]
      ∧ s.sameTables ((s.readyRx.countFrame.occupyMgmt q k).capture q v) := by
  have hk : ((s.readyRx.countFrame.occupyMgmt q k).slot q.tag).mgmtBuf = some k := by simp [mgmtSlot]
  refine ⟨?_, ?_, ⟨fun j => ?_, by simp, by simp⟩, ?_, ?_, ?_⟩
  · simp only [State.received]; simp
  · rw [State.capture_slot _ hk, if_pos rfl, valueSlot]; simp [mgmtSlot]
  · rw [State.capture_mgmtBuffers _ hk]; simp
  · intro v hv; rw [State.capture_otherSlot _ hv]; simp [hv]
  · simp [State.capture_rtp, State.returns]
  · simp only [State.sameTables, State.sameButEntries, State.sameRest]; simp

/-- A write that its owner refuses is refused. -/
theorem write_refused {s : State} {h : WriteHead} {w : WriteKind} {o : Half} {p : List Byte} {k : Fin 4}
    {ob : MgmtObject} {st : Status} {rs : Reason} (hs : s.reachesAgent h.tag k) (hg : goodLength w h)
    (hp : p.length ≤ 240) (ho : objectOf o = ob) (h1 : ob.writable = true) (h2 : ob.readable = true)
    (h3 : h.position = 0 ∨ ob.isData = true) (h4 : ∀ n, ob.writeSize = some n → p.length = n)
    (hu : ownerWrite (s.readyRx.countFrame.occupyMgmt (writeRequest h w o p) k) (writeRequest h w o p) ob
      = .refused st rs) :
    ∃ u, requestEvent (writeRequest h w o p) s = .next u.start
      ∧ s.agentRefuses u (writeRequest h w o p) k st rs := by
  rw [requestEvent_write hs hg hp, ho, mgmtWrite_of_checks h1 (fun _ => h2) h3 h4, hu]
  exact ⟨_, rfl, refuse_agentRefuses s⟩

end Sys2Proof.Machine
end

