-- ==== Sys2Proof/Laws/Memory.lean ====
section
/-! SUPPORT. The reply store's bytes: every write keeps the canonical form, and a read after a write. -/

namespace Sys2Proof.Machine.Memory

theorem wfFrom_mono {lo lo' : Nat} (h : lo' ≤ lo) : ∀ {m : Memory}, wfFrom lo m = true → wfFrom lo' m = true
  | [], _ => rfl
  | (k, v) :: m, hm => by
    simp only [wfFrom, Bool.and_eq_true, decide_eq_true_eq, bne_iff_ne, ne_eq] at hm ⊢
    exact ⟨⟨⟨by omega, hm.1.1.2⟩, hm.1.2⟩, hm.2⟩

/-- An address below a canonical memory's first reads as nothing written. -/
theorem read_below {lo a : Nat} (h : a < lo) : ∀ {m : Memory}, wfFrom lo m = true → read m a = 0
  | [], _ => rfl
  | (k, v) :: m, hm => by
    simp only [wfFrom, Bool.and_eq_true, decide_eq_true_eq, bne_iff_ne, ne_eq] at hm
    have hk : a ≠ k := by omega
    simp only [read, hk, if_false]
    exact read_below (by omega) hm.2

/-- Writing a byte keeps the canonical form. -/
theorem wfFrom_put {lo a : Nat} {b : Byte} (hlo : lo ≤ a) (ha : a < Config.storeSize) :
    ∀ {m : Memory}, wfFrom lo m = true → wfFrom lo (put m a b) = true
  | [], _ => by
    unfold put
    split <;> simp_all [wfFrom]
  | (k, v) :: m, hm => by
    have hm' := hm
    simp only [wfFrom, Bool.and_eq_true, decide_eq_true_eq, bne_iff_ne, ne_eq] at hm'
    unfold put
    split
    · split
      · exact hm
      · next h1 h2 =>
        simp only [wfFrom, Bool.and_eq_true, decide_eq_true_eq, bne_iff_ne, ne_eq]
        exact ⟨⟨⟨hlo, ha⟩, h2⟩, ⟨⟨by omega, hm'.1.1.2⟩, hm'.1.2⟩, hm'.2⟩
    · split
      · next h1 h2 =>
        subst h2
        split
        · exact wfFrom_mono (by omega) hm'.2
        · next h3 =>
          simp only [wfFrom, Bool.and_eq_true, decide_eq_true_eq, bne_iff_ne, ne_eq]
          exact ⟨⟨⟨hlo, ha⟩, h3⟩, hm'.2⟩
      · simp only [wfFrom, Bool.and_eq_true, decide_eq_true_eq, bne_iff_ne, ne_eq]
        exact ⟨⟨⟨hm'.1.1.1, hm'.1.1.2⟩, hm'.1.2⟩, wfFrom_put (by omega) ha hm'.2⟩

/-- A read after writing a byte. -/
theorem read_put {lo : Nat} (a c : Nat) (b : Byte) :
    ∀ {m : Memory}, wfFrom lo m = true → read (put m a b) c = if c = a then b else read m c
  | [], _ => by
    unfold put
    split <;> simp_all [read]
  | (k, v) :: m, hm => by
    have hm' := hm
    simp only [wfFrom, Bool.and_eq_true, decide_eq_true_eq, bne_iff_ne, ne_eq] at hm'
    unfold put
    split
    · next h1 =>
      split
      · next h2 =>
        split
        · next h3 => subst h2 h3; exact read_below (lo := k) h1 (by simpa [wfFrom, hm'] using hm'.1.2)
        · rfl
      · rfl
    · split
      · next h1 h2 =>
        subst h2
        split
        · next h3 =>
          split
          · next h4 => subst h3 h4; exact read_below (Nat.lt_succ_self _) hm'.2
          · next h4 => simp [read, h4]
        · by_cases h4 : c = a <;> simp [read, h4]
      · next h1 h2 =>
        simp only [read]
        by_cases h3 : c = k
        · simp [h3, show k ≠ a by omega]
        · simp only [h3, if_false]
          exact read_put a c b hm'.2

/-- Every write of the store keeps the canonical form. -/
theorem wf_write {m : Memory} (h : wf m = true) (a : Nat) (b : Byte) : wf (write m a b) = true := by
  unfold write
  split
  · next ha => exact wfFrom_put (Nat.zero_le a) ha h
  · exact h

theorem wf_writeRun : ∀ (bs : List Byte) (a : Nat) {m : Memory}, wf m = true → wf (writeRun m a bs) = true
  | [], _, _, h => h
  | b :: bs, a, _, h => wf_writeRun bs (a + 1) (wf_write h a b)

/-- A read after a run of bytes is written inside the store. -/
theorem read_writeRun : ∀ (bs : List Byte) (a c : Nat) {m : Memory}, wf m = true →
    a + bs.length ≤ Config.storeSize →
    read (writeRun m a bs) c = if a ≤ c ∧ c < a + bs.length then bs.getD (c - a) 0 else read m c
  | [], a, c, _, _, _ => by simp [writeRun]
  | b :: bs, a, c, m, hm, hl => by
    simp only [List.length_cons] at hl ⊢
    have ha : a < Config.storeSize := by omega
    rw [writeRun, read_writeRun bs (a + 1) c (wf_write hm a b) (by omega)]
    simp only [write, if_pos ha, read_put (lo := 0) a c b hm]
    by_cases h1 : c = a
    · subst h1; simp
    · by_cases h2 : a + 1 ≤ c ∧ c < a + 1 + bs.length
      · have h3 : a ≤ c ∧ c < a + (bs.length + 1) := by omega
        obtain ⟨d, hd⟩ : ∃ d, c - a = d + 1 := ⟨c - a - 1, by omega⟩
        rw [if_pos h2, if_pos h3, hd, show c - (a + 1) = d by omega]
        rfl
      · have h3 : ¬ (a ≤ c ∧ c < a + (bs.length + 1)) := by omega
        rw [if_neg h2, if_neg h3, if_neg h1]

/-- A run of bytes reads as many bytes as it is asked for. -/
theorem length_readRun (m : Memory) : ∀ n a, (readRun m a n).length = n
  | 0, _ => rfl
  | n + 1, a => by simp [readRun, length_readRun m n (a + 1)]

end Sys2Proof.Machine.Memory
end

