-- ==== Sys2Proof/Laws/Departure.lean ====
section
/-! SUPPORT. Everything that a slot's leaving of the segment side does to its entry, its claim and the return path
(R12, R14, R21, R70 to R72). -/

namespace Sys2Proof.Machine.State

variable (s : State)

/-! ### The entry (R12, R14, R21) -/

/-- What a departure leaves of the entries. -/
theorem leaveEntry_entry (t : Tag) (o : Option Status) (e : EntryNo) :
    (s.leaveEntry t o).entry e = if (s.slot t).attachedEntry = some e then
      { s.entry e with
        inFlight := (s.entry e).inFlight - 1
        hold := (s.entry e).hold || o.any (s.entry e).asksHold
        holder := if (s.entry e).inFlight ≤ 1 then none else (s.entry e).holder }
      else s.entry e := by
  unfold State.leaveEntry
  cases ha : (s.slot t).attachedEntry with
  | none => simp
  | some a =>
    simp only
    have key : ∀ s2 : State, (∀ n, s2.entry n = if n = a then (s.entry a).depart o else s.entry n) →
        State.entry (if (s2.entry a).inFlight = 0 then s2.completeQuiesce a else s2) e = if a = e then
      { s.entry e with
        inFlight := (s.entry e).inFlight - 1
        hold := (s.entry e).hold || o.any (s.entry e).asksHold
        holder := if (s.entry e).inFlight ≤ 1 then none else (s.entry e).holder }
      else s.entry e := by
      intro s2 h2
      have ha := h2 a
      simp at ha
      by_cases hz : (s.entry a).inFlight ≤ 1
      · have : (s2.entry a).inFlight = 0 := by rw [ha]; simp [Entry.depart]; omega
        rw [if_pos this]
        cases hh : (s2.entry a).holder with
        | none =>
          rw [State.completeQuiesce_none _ hh, h2]
          rw [ha] at hh; simp [Entry.depart] at hh
          by_cases he : a = e
          · subst he; simp [Entry.depart, hz, hh]
          · have : ¬ e = a := fun h => he h.symm
            simp [he, this]
        | some h =>
          rw [State.completeQuiesce_some _ hh]
          by_cases he : a = e
          · subst he; simp [ha, Entry.depart, hz]
          · have : ¬ e = a := fun h => he h.symm
            simp [he, this, h2]
      · have : ¬ (s2.entry a).inFlight = 0 := by rw [ha]; simp [Entry.depart]; omega
        rw [if_neg this, h2]
        by_cases he : a = e
        · subst he; simp [Entry.depart, hz]
        · have : ¬ e = a := fun h => he h.symm
          simp [he, this]
    have := key (if o.any (s.entry a).newlyHeld then
        ((s.updSlot t (fun sl => { sl with attached := false })).updEntry a
          (fun en => en.depart o)).raise nodeEntryHeld (halfNat a)
      else (s.updSlot t (fun sl => { sl with attached := false })).updEntry a (fun en => en.depart o)) (by
      intro n; split <;> (simp [eq_comm]; try (split <;> simp_all)))
    simpa using this

/-- What a departure does beside the entry: the slot is detached, a quiesce that ends is answered DONE, and
ENTRY_HELD is raised when HOLD is newly set. -/
theorem leaveEntry_effect {t : Tag} {o : Option Status} {Q : Option Tag} (hQ : s.quiesced t = Q)
    (h : ∀ w, Q = some w → w ≠ t) :
    (∀ v, (s.leaveEntry t o).slot v
        = if v = t then
            (if (s.slot t).attachedEntry.isSome then { s.slot t with attached := false } else s.slot t)
          else if Q = some v then (s.slot v).answered .done .none .none else s.slot v)
      ∧ (s.leaveEntry t o).rtp = { s.rtp with queue := s.rtp.queue ++ Q.toList }
      ∧ (s.leaveEntry t o).mga
        = { s.mga with pendingRecords := s.mga.pendingRecords.filter (fun r => Q ≠ some r.tag) }
      ∧ (s.leaveEntry t o).ntu = (match (s.slot t).attachedEntry with
        | none => s.ntu
        | some e => if o.any (s.entry e).newlyHeld then s.ntu.raise nodeEntryHeld (halfNat e) else s.ntu) := by
  unfold State.leaveEntry
  unfold State.quiesced at hQ
  cases ha : (s.slot t).attachedEntry with
  | none => rw [ha] at hQ; subst hQ; simp
  | some a =>
    rw [ha] at hQ
    simp only at hQ ⊢
    generalize hs2 : (if o.any (s.entry a).newlyHeld then
        ((s.updSlot t (fun sl => { sl with attached := false })).updEntry a
          (fun en => en.depart o)).raise nodeEntryHeld (halfNat a)
      else (s.updSlot t (fun sl => { sl with attached := false })).updEntry a (fun en => en.depart o)) = s2
    have e1 : ∀ v, s2.slot v = if v = t then { s.slot t with attached := false } else s.slot v := by
      intro v; rw [← hs2]; split <;> (simp; split <;> simp_all)
    have e2 : s2.rtp = s.rtp := by rw [← hs2]; split <;> simp
    have e3 : s2.mga = s.mga := by rw [← hs2]; split <;> simp
    have e4 : s2.ntu
        = if o.any (s.entry a).newlyHeld then s.ntu.raise nodeEntryHeld (halfNat a) else s.ntu := by
      rw [← hs2]; split <;> simp
    have e5 : (s2.entry a) = (s.entry a).depart o := by rw [← hs2]; split <;> simp
    by_cases hz : (s.entry a).inFlight ≤ 1
    · have z : (s2.entry a).inFlight = 0 := by rw [e5]; simp [Entry.depart]; omega
      rw [if_pos hz] at hQ
      rw [if_pos z]
      cases hh : (s.entry a).holder with
      | none =>
        rw [hh] at hQ; subst hQ
        have : (s2.entry a).holder = none := by rw [e5]; simp [Entry.depart, hh]
        rw [State.completeQuiesce_none _ this]
        refine ⟨fun v => ?_, ?_, ?_, ?_⟩
        · rw [e1]; simp
        · rw [e2]; simp
        · rw [e3]; simp
        · rw [e4]
      | some w =>
        rw [hh] at hQ; subst hQ
        have : (s2.entry a).holder = some w := by rw [e5]; simp [Entry.depart, hh]
        have hw := h w rfl
        rw [State.completeQuiesce_some _ this]
        refine ⟨fun v => ?_, ?_, ?_, ?_⟩
        · simp [e1, Slot.answered]
          by_cases hv : v = t
          · subst hv; simp [Ne.symm hw]
          · by_cases hvw : v = w
            · subst hvw; simp [hv]
            · simp [hv, hvw, Ne.symm hvw]
        · simp [e2]
        · simp [e3, eq_comm]
        · simp [e4]
    · have z : ¬ (s2.entry a).inFlight = 0 := by rw [e5]; simp [Entry.depart]; omega
      rw [if_neg hz] at hQ; subst hQ
      rw [if_neg z]
      refine ⟨fun v => ?_, ?_, ?_, ?_⟩
      · rw [e1]; simp
      · rw [e2]; simp
      · rw [e3]; simp
      · rw [e4]

/-- The slot that leaves, detached. -/
theorem detached_slot {t : Tag} (h : (s.slot t).attached = true → (s.slot t).entry.isSome = true) :
    (if (s.slot t).attachedEntry.isSome then { s.slot t with attached := false } else s.slot t)
      = { s.slot t with attached := false } := by
  split
  · rfl
  · rename_i hh
    have : (s.slot t).attached = false := by
      cases ha : (s.slot t).attached with
      | false => rfl
      | true => simp [Slot.attachedEntry, ha, Option.isSome_iff_ne_none.mp (h ha)] at hh
    rw [← this]

/-! ### The claim (R70 to R72) -/

variable {s} in
theorem claimedRecord_of_claims {t : Tag} {c : Option RecordNo} (h : s.claims t c) : s.claimedRecord t = c := by
  unfold State.claimedRecord
  cases c with
  | none => rw [h.1]; rfl
  | some r =>
    rw [h.1]; simp only [Option.isSome_some, if_true]
    cases hf : (indexes 48).find? (fun r => (s.record r).claim = some t) with
    | none =>
      rw [List.find?_eq_none] at hf
      have := hf r (by simp [indexes])
      have h2 := (h.2 r).2 rfl
      simp [h2] at this
    | some n =>
      have := List.find?_some hf
      simp at this
      exact ((h.2 n).1 this).symm

/-- What an outcome does to a claim: `State.settles`, and the slot's flag. -/
theorem settleClaim_settles {s : State} {t : Tag} {c : Option RecordNo} {st : Status} (hc : s.claims t c)
    (hf : s.mayFill t c st 0) :
    (∀ v, (s.settleClaim t st).slot v = if v = t then { s.slot t with fillClaim := false } else s.slot v)
      ∧ s.settles (s.settleClaim t st) t c st := by
  unfold State.settleClaim
  rw [claimedRecord_of_claims hc]
  cases c with
  | none =>
    have : (s.slot t).fillClaim = false := hc.1
    refine ⟨fun v => ?_, by simp, ?_, ?_, ?_⟩
    · by_cases hv : v = t
      · subst hv; simp [← this]
      · simp [hv]
    · intro r hr; simp [State.filledRecord] at hr
    · intro r hr; simp [State.filledRecord] at hr
    · simp
  | some r =>
    have hcl := (hc.2 r).2 rfl
    simp only
    have hs : ∀ v, (s.dropClaim r).slot v = if v = t then { s.slot t with fillClaim := false } else s.slot v := by
      intro v; rw [State.dropClaim_slot, hcl]
      by_cases hv : v = t
      · subst hv; simp
      · have : ¬ t = v := fun h => hv h.symm
        simp [hv, this]
    have hff : s.filledRecord t (some r) st = if fills (s.slot t).function st = true then some r else none := by
      unfold State.filledRecord fills fnRead fnWrite
      by_cases h1 : st = .done <;> by_cases h2 : (s.slot t).function = 1 <;>
        by_cases h3 : (s.slot t).function = 2 <;> simp_all
    by_cases hfi : fills (s.slot t).function st = true
    · rw [if_pos hfi] at hff; rw [if_pos hfi]
      by_cases hp : (s.record r).pins = 0
      · rw [if_pos hp]
        have hf2 := hf.2 r hff
        have hsl : ∀ v, (s.fill t r).slot v = if v = t then { s.slot t with fillClaim := false } else s.slot v := by
          intro v
          simp only [State.fill]
          simp [State.dropClaim_slot, Record.validate, hcl]
          by_cases hv : v = t
          · subst hv; simp
          · have : ¬ t = v := fun h => hv h.symm
            simp [hv, this]
        refine ⟨hsl, fun n => ?_, fun n hn hp' => ?_, fun n hn hp' => ?_, fun h => ?_⟩
        · simp [State.fill, State.dropClaim_record, hff, eq_comm]
          by_cases hn : n = r
          · subst hn; simp [hp, Record.validate]
          · have : ¬ r = n := fun h => hn h.symm
            simp [this]
        · rw [hff] at hn; cases hn
          refine ⟨fun a => ?_, ?_⟩
          · have e : (s.fill t r).rst.store
                = Memory.writeRun s.rst.store (s.record r).base ((s.slotBuffer t).take (s.record r).length) := by
              simp [State.fill, State.dropClaim_store, State.updRecord_store]; rfl
            have hl : ((s.slotBuffer t).take (s.record r).length).length = (s.record r).length := by
              simp at hf2 ⊢; omega
            have hb : (s.fill t r).slotBuffer t = s.slotBuffer t := by
              have h1 : ((s.fill t r).slot t).frameBuf = (s.slot t).frameBuf := by rw [hsl]; simp
              simp only [State.slotBuffer, h1]
              cases (s.slot t).frameBuf <;> simp
            rw [e, hb, Memory.read_writeRun _ _ _ hf.1 (by rw [hl]; exact hf2.1), hl]
            split
            · next h => simp [byteAt, List.getD_eq_getElem?_getD, show a - (s.record r).base < (s.record r).length by omega]
            · rfl
          · simp [State.fill]
        · rw [hff] at hn; cases hn; exact absurd hp hp'
        · rw [hff] at h; cases h
      · rw [if_neg hp]
        refine ⟨fun v => ?_, fun n => ?_, fun n hn hp' => ?_, fun n hn hp' => ?_, fun h => ?_⟩
        · simp [hs]
        · simp [State.dropClaim_record, hff, eq_comm]
          by_cases hn : n = r
          · subst hn; simp [Ne.symm hp]
          · have : ¬ r = n := fun h => hn h.symm
            simp [this]
        · rw [hff] at hn; cases hn; exact absurd hp' hp
        · simp [State.dropClaim_store]
        · rw [hff] at h; cases h
    · rw [if_neg hfi] at hff; rw [if_neg hfi]
      refine ⟨hs, fun n => ?_, fun n hn hp' => ?_, fun n hn hp' => ?_, fun h => ?_⟩
      · simp [State.dropClaim_record, hff, eq_comm]
      · rw [hff] at hn; cases hn
      · rw [hff] at hn; cases hn
      · simp [State.dropClaim_store]

end Sys2Proof.Machine.State
end

