-- ==== Sys2Proof/Laws/Segments.lean ====
section
/-! SUPPORT. Events, changes of one segment controller, and what a dispatch and the end of a segment frame come to. -/

namespace Sys2Proof.Machine

theorem event_of_released {f : State → State} {s : State} (h : s.resetAsserted = false) :
    event f s = .next (f s).start := by simp [event, quietEvent, h]

theorem quietEvent_of_released {f : State → State} {s : State} (h : s.resetAsserted = false) :
    quietEvent f s = .next (f s) := by simp [quietEvent, h]

namespace State

variable (s : State)

/-! ### One controller -/

theorem updSeg_updSeg (x : Seg) (f g : Segment → Segment) :
    (s.updSeg x f).updSeg x g = s.updSeg x (fun a => g (f a)) := by cases x <;> rfl

theorem updSeg_self {x : Seg} {f : Segment → Segment} (h : f (s.seg x) = s.seg x) : s.updSeg x f = s := by
  cases x <;> (simp only [State.seg] at h; simp only [State.updSeg, h])

theorem updSeg_congr {x : Seg} {f g : Segment → Segment} (h : f (s.seg x) = g (s.seg x)) :
    s.updSeg x f = s.updSeg x g := by
  cases x <;> (simp only [State.seg] at h; simp only [State.updSeg, h])

theorem updSlot_updSeg (x : Seg) (t : Tag) (f : Segment → Segment) (g : Slot → Slot) :
    (s.updSeg x f).updSlot t g = (s.updSlot t g).updSeg x f := by cases x <;> rfl

/-! ### Presence (R41, R80) -/

theorem isAbsent_false {st : Station} (h : ∀ i, stationOf i = st → (s.station i).presence ≠ .absent) :
    s.isAbsent st = false := by
  unfold State.isAbsent
  split
  · rename_i i hi
    have : stationOf i = st := by
      unfold stationRecordOf at hi
      split at hi
      · cases hi; apply Fin.ext; simp [stationOf]; omega
      · cases hi
    simpa using h i this
  · rfl

theorem stationRecordOf_stationOf (i : StationNo) : stationRecordOf (stationOf i) = some i := by
  revert i; decide

theorem isAbsent_true {st : Station} {i : StationNo} (hi : stationOf i = st) (h : (s.station i).presence = .absent) :
    s.isAbsent st = true := by
  subst hi; simp [State.isAbsent, stationRecordOf_stationOf, h]

/-! ### Dispatch (R79, R92) -/

theorem probeSearch_none {x : Seg}
    (h : ∀ i, ¬ ((s.station i).home = some x ∧ (s.station i).presence = .absent)) :
    s.probeSearch x = none := by
  unfold State.probeSearch
  rw [List.find?_eq_none]
  intro i _
  simp; intro a b; exact h i ⟨a, b⟩

/-- A dispatch with no probe to send takes the queue head. -/
theorem dispatch_head {x : Seg} {t : Tag} {q : List Tag} (h1 : (s.seg x).engine = .idle)
    (h2 : (s.seg x).segState = .enabled) (h3 : (s.seg x).queue = t :: q)
    (h4 : (s.seg x).probeDue = false
      ∨ ∀ i, ¬ ((s.station i).home = some x ∧ (s.station i).presence = .absent)) :
    s.dispatch x = State.takeHead x (t :: q) (s.updSeg x (fun g => { g with probeDue := false })) := by
  have hm : (s.seg x).mayDispatch = true := by simp [Segment.mayDispatch, h1, h2, h3]
  unfold State.dispatch
  rw [if_pos hm]
  by_cases hd : (s.seg x).probeDue = true
  · have h4' : ∀ i, ¬ ((s.station i).home = some x ∧ (s.station i).presence = .absent) := by
      rcases h4 with h4 | h4
      · rw [hd] at h4; cases h4
      · exact h4
    have hp := probeSearch_none (s.updSeg x (fun g => { g with probeDue := false })) (x := x) (by simpa using h4')
    rw [if_pos hd]; simp only [hp]
    simp [h3]
  · have hd' : (s.seg x).probeDue = false := by simpa using hd
    rw [if_neg hd, h3, updSeg_self]
    rw [← hd']

/-! ### The end of a received frame (R82) -/

theorem exec_segmentFrameRxEnd {s : State} {x : Seg} (h0 : s.resetAsserted = false)
    (h1 : (s.seg x).rx.state = .receiving) (hl : (s.seg x).rx.lost = false) :
    exec (.segmentFrameRxEnd x) s
      = .next (State.start (State.judgeSegmentFrame (s.updSeg x (fun g => { g with rx := Receiver.idle })) x
          (checkResponse (s.seg x).rx.bytes (s.seg x).rx.count))) := by
  show event (fun s => s.segmentFrameRxEnd x) s = _
  rw [event_of_released h0]; simp [State.segmentFrameRxEnd, h1, hl]

end State

end Sys2Proof.Machine
end

