-- ==== Sys2Proof/Laws/Receivers.lean ====
section
/-! SUPPORT. What the decision of a received frame leaves of the receivers: the acceptance decision does not touch
the upstream receiver (R33, R167), and the judgement of a segment frame leaves the segment's receiver as it was
(R82, R167). -/

namespace Sys2Proof.Machine

namespace State

variable (s : State)

/-! ### The acceptance decision and the upstream receiver -/

theorem takeHead_upRx (x : Seg) (q : List Tag) : (State.takeHead x q s).upRx = s.upRx := by
  induction q generalizing s with
  | nil => simp [State.takeHead]
  | cons t q ih => simp only [State.takeHead]; split <;> simp [ih]

theorem dispatch_upRx (x : Seg) : (s.dispatch x).upRx = s.upRx := by
  unfold State.dispatch
  split
  · split
    · dsimp only
      split <;> simp [takeHead_upRx]
    · exact takeHead_upRx s x _
  · rfl

theorem answerDown_upRx (q : List Tag) : (State.answerDown q s).upRx = s.upRx := by
  induction q generalizing s with
  | nil => rfl
  | cons t q ih => simp [State.answerDown, ih]

theorem forward_upRx (q : Request) (e : Option EntryNo) : (s.forward q e).upRx = s.upRx := by
  unfold State.forward
  repeat' split
  all_goals simp [dispatch_upRx, State.refuseForward, State.enqueue]

theorem mirrorAnswer_upRx (q : Request) (e : EntryNo) (r : RecordNo) : (s.mirrorAnswer q e r).upRx = s.upRx := by
  unfold State.mirrorAnswer
  dsimp only
  repeat' split
  all_goals simp [forward_upRx, State.occupyLocal]

theorem act_upRx (q : Request) (e : EntryNo) : (s.act q e).upRx = s.upRx := by
  unfold State.act State.fixedAnswer State.streamAnswer State.chunkAnswer
  dsimp only
  repeat' split
  all_goals simp [forward_upRx, mirrorAnswer_upRx, State.occupyLocal]

theorem ownerWrite_upRx {t : State} {q : Request} {o : MgmtObject}
    (h : ownerWrite s q o = .done t ∨ ownerWrite s q o = .waits t) : t.upRx = s.upRx := by
  cases o
  case command c =>
    cases c <;> simp only [ownerWrite, runCommand, cmdEntryHold, cmdEntryRelease, cmdEntryBar, cmdEntryUnbar,
      cmdStreamRewind, cmdMirrorInvalidate, cmdSegmentEnable, cmdSegmentDisable, cmdStationForget, cmdNoticeAck,
      cmdNoticeDone, cmdNoticeForce, cmdRestart] at h
    all_goals repeat' split at h
    all_goals simp [Verdict.badValue] at h
    all_goals (subst h; simp [dispatch_upRx, answerDown_upRx, State.beginDrain, State.clearCounters])
  all_goals simp only [ownerWrite, writeGeneral, writeSegmentConfig, writeNoticeConfig, writeEntry, writeDescriptor,
    writeRecordData, writeStation, writeNode] at h
  all_goals repeat' split at h
  all_goals simp [Verdict.badValue] at h
  all_goals (subst h; try simp [State.replaceEntry, State.detachAll])
  unfold State.dataWritten
  repeat' split
  all_goals simp

theorem mgmtWrite_upRx {t : State} {q : Request} {o : MgmtObject}
    (h : mgmtWrite s q o = .done t ∨ mgmtWrite s q o = .waits t) : t.upRx = s.upRx := by
  unfold mgmtWrite at h
  repeat' split at h
  all_goals first | exact s.ownerWrite_upRx h | simp [Verdict.badValue] at h

theorem manage_upRx (q : Request) : (s.manage q).upRx = s.upRx := by
  have hc : (s.conclude q (objectOf q.object) (mgmtWrite s q (objectOf q.object))).upRx = s.upRx := by
    cases h : mgmtWrite s q (objectOf q.object) <;> simp only [State.conclude]
    · rw [← s.mgmtWrite_upRx (.inl h)]; split <;> simp
    · rw [← s.mgmtWrite_upRx (.inr h)]
    · simp
  unfold State.manage State.mgmtRead
  repeat' split
  all_goals first | exact hc | simp

/-- The acceptance decision leaves the upstream receiver alone. -/
theorem accept_upRx (q : Request) : (s.accept q).upRx = s.upRx := by
  unfold State.accept State.toAgent State.toStation State.clash State.miss State.hit
  repeat' split
  all_goals simp [manage_upRx, forward_upRx, act_upRx, State.occupyMgmt, State.pushClash]

theorem judgeUpstream_upRx (r : Except Half Request) : (s.judgeUpstream r).upRx = s.upRx := by
  cases r <;> simp [State.judgeUpstream, State.handOver, State.linkError, State.countFrame, accept_upRx]

/-- After the end of a frame the upstream receiver is READY (R167). -/
theorem upstreamFrameEnd_upRx (h : s.upRx.state = .receiving) : s.upstreamFrameEnd.upRx = Receiver.idle := by
  simp [State.upstreamFrameEnd, h, judgeUpstream_upRx, State.readyRx]

/-! ### The judgement of a segment frame and the segment's receiver -/

/-- The judgement of a frame leaves a READY receiver alone. -/
theorem judgeSegmentFrame_rx {x : Seg} (f : Option Response) (h : (s.seg x).rx = Receiver.idle) :
    ((s.judgeSegmentFrame x f).seg x).rx = Receiver.idle := by
  unfold State.judgeSegmentFrame State.acceptResponse
  repeat' split
  all_goals simp [*, Segment.stray, Segment.corruptAttempt, Segment.failAttempt, Segment.enterGap, Segment.count]
  all_goals (repeat' split)
  all_goals simp [*]

/-- After the end of a frame the segment's receiver is READY (R167). -/
theorem segmentFrameRxEnd_rx {x : Seg} (h : (s.seg x).rx.state = .receiving) :
    ((s.segmentFrameRxEnd x).seg x).rx = Receiver.idle := by
  unfold State.segmentFrameRxEnd
  simp only [h]
  split
  · simp
  · exact judgeSegmentFrame_rx _ _ (by simp)

end State

end Sys2Proof.Machine
end

