-- ==== Sys2Proof/WellFormed.lean ====
section
/-! DEFINITION. Which commands can be sent: a request frame carries at most 240 payload bytes (R169). -/

namespace Sys2Proof

/-- The largest payload of a frame (R169, R170). -/
abbrev maxPayload : Nat := 240

/-- A payload fits a request frame (R169). -/
def payloadFits (p : List Byte) : Bool := p.length ≤ maxPayload

/-- The check of R169 on the rows that carry a payload of free length.  Every other row's operands are
in range by their types.  The machine gives an ill-formed command a meaning too: R172 drops a frame
that carries more than 240 payload bytes. -/
def Instr.wellFormed : Instr → Bool
  | .entryWrite _ _ _ p => payloadFits p
  | .descriptorWrite _ _ _ p => payloadFits p
  | .recordDataWrite _ _ _ p => payloadFits p
  | .stationRecordWrite _ _ _ p => payloadFits p
  | .nodeWrite _ _ _ p => payloadFits p
  | .generalConfigurationWrite _ _ p => payloadFits p
  | .segmentConfigurationWrite _ _ _ p => payloadFits p
  | .noticeConfigurationWrite _ _ p => payloadFits p
  | .upstreamFrameEnd => true
  | .entryHold _ _ => true
  | .entryRelease _ _ => true
  | .entryBar _ _ => true
  | .entryUnbar _ _ => true
  | .streamRewind _ _ => true
  | .mirrorInvalidate _ _ => true
  | .segmentEnable _ _ => true
  | .segmentDisable _ _ => true
  | .stationForget _ _ => true
  | .noticeAck _ _ => true
  | .noticeDone _ => true
  | .noticeForceSet _ _ => true
  | .noticeForceClear _ _ => true
  | .countersClear _ => true
  | .restartTraffic _ => true
  | .restartFull _ => true
  | .dispatch _ => true
  | .segmentFrameTxEnd _ => true
  | .segmentFrameRxEnd _ => true
  | .responseTimerExpiry _ => true
  | .gapEnd _ => true
  | .probeTimerExpiry _ => true
  | .mirrorAgeTick => true
  | .startOfTransmission => true
  | .responseFrameEnd => true
  | .clashFrameEnd => true
  | .noticeFrameEnd => true
  | .spacingEnd => true
  | .repeatTimerExpiry => true
  | .resetAssert _ => true
  | .resetRelease => true
  | .powerUp => true
  | .receiverIdleGap _ => true
  | .byteArrival _ _ => true

end Sys2Proof
end

