-- ==== Sys2Proof/Tests/Slice0.lean ====
section
/-! SUPPORT. The model's own tests: the well-formedness smoke, the decoder, the CRC, one or two steps of every
command, and for each statement of Certificates/Slice0/Obligations.lean that has hypotheses a state that meets
them. -/

namespace Sys2Proof.Machine

/-! ### Changes of a state -/

/-- A state whose upstream receiver holds the frame of a request. -/
def State.hearing (s : State) (q : Request) : State :=
  { s with upRx := { state := .receiving, bytes := requestFrame q, count := 13 + q.payload.length } }

/-- A state whose receiver of segment A holds a response frame. -/
def State.hearingA (s : State) (station : Station) (tag : Tag) (status : Byte) (payload : List Byte) : State :=
  s.updSeg .a (fun g => { g with rx := {
    state := .receiving, bytes := responseFrame station tag status 0 payload, count := 9 + payload.length } })

/-- Segment A is ENABLED. -/
def State.enabledA (s : State) : State :=
  s.updSeg .a (fun g => { g with segState := .enabled, probeTimer := some 500 })

/-- Segment A's engine carries the slot of tag 3 in state `e`. -/
def State.carryingA (s : State) (e : Engine) : State :=
  (s.updSlot 3 (fun sl => { sl with state := .onWire, attempts := 1 })).enabledA.updSeg .a (fun g => { g with
    engine := e, carried := .slot 3, responseTimer := if e = .awaiting then some 100 else none,
    failure := if e = .gap then some .noAnswer else none })

/-- The slot of tag 3 holds a READ of 4 bytes to a station with frame buffer 23. -/
def State.reading (s : State) (station : Station) : State :=
  s.updSlot 3 (fun sl => { sl with
    state := .queued, origin := some .missForward, station := station, function := 1, reqLen := 4,
    segment := some .a, frameBuf := some 23 })

/-- Entry 95 is the only valid one. -/
def State.with95 (s : State) (e : Entry) : State := s.updEntry 95 (fun _ => e)

/-- Record 47 is this one. -/
def State.with47 (s : State) (r : Record) : State := s.updRecord 47 (fun _ => r)

/-- Station 126 is homed on segment A with this presence. -/
def State.with126 (s : State) (p : Presence) : State :=
  s.updStation 125 (fun _ => { home := some .a, presence := p, failures := if p = .absent then 3 else 0 })

end Sys2Proof.Machine

namespace Sys2Proof.Tests

open Sys2Proof Sys2Proof.Machine

set_option Elab.async false

/-! ### Small states -/

/-- Reset, with every line seen idle. -/
def ready : State :=
  { State.reset with
    upRx := { state := .ready }
    segA := { rx := { state := .ready } }
    segB := { rx := { state := .ready } } }

/-- The head of a management write on tag 5. -/
def head : WriteHead := { tag := 5, position := 0, reqLen := 240 }

/-- A request on tag 5. -/
def ask (station : Station) (function : Byte) (object position : Half) (reqLen : Byte) (payload : List Byte) :
    Request :=
  { station := station, function := function, tag := 5, object := object, position := position, reqLen := reqLen,
    payload := payload }

/-- The state after a command. -/
def after (c : Instr) (s : State) : State :=
  match exec c s with
  | .next t => t
  | .fault _ => s
  | .refused _ => s

/-- A valid entry of every function, key ANY and every object. -/
def open95 (a : Action) : Entry :=
  { valid := true, key := .any, functions := { read := true, write := true, exchange := true, ping := true },
    objectLow := 0, objectHigh := 0xFFFF, action := a }

/-- A MIRROR record at the end of the store. -/
def mirror240 : Record := { kind := .mirror, base := 12048, length := 240 }

/-- A STREAM record of 240 bytes at the end of the store. -/
def stream240 : Record := { kind := .stream, base := 12048, total := 240, chunk := 8, remaining := 240 }

/-- A FIXED record of 240 bytes at the end of the store. -/
def fixed240 : Record := { kind := .fixed, base := 12048, length := 240 }

/-! ### Well-formedness: a payload of 241 bytes is refused on every row that carries one -/

theorem test_wellFormed_accepts : (Instr.entryWrite head .write 0 (List.replicate 240 0)).wellFormed = true := by
  decide +kernel
theorem test_wellFormed_entryWrite :
    (Instr.entryWrite head .write 0 (List.replicate 241 0)).wellFormed = false := by decide +kernel
theorem test_wellFormed_descriptorWrite :
    (Instr.descriptorWrite head .write 0 (List.replicate 241 0)).wellFormed = false := by decide +kernel
theorem test_wellFormed_recordDataWrite :
    (Instr.recordDataWrite head .write 0 (List.replicate 241 0)).wellFormed = false := by decide +kernel
theorem test_wellFormed_stationRecordWrite :
    (Instr.stationRecordWrite head .write 0 (List.replicate 241 0)).wellFormed = false := by decide +kernel
theorem test_wellFormed_nodeWrite :
    (Instr.nodeWrite head .write 0 (List.replicate 241 0)).wellFormed = false := by decide +kernel
theorem test_wellFormed_generalConfigurationWrite :
    (Instr.generalConfigurationWrite head .write (List.replicate 241 0)).wellFormed = false := by decide +kernel
theorem test_wellFormed_segmentConfigurationWrite :
    (Instr.segmentConfigurationWrite head .write .a (List.replicate 241 0)).wellFormed = false := by decide +kernel
theorem test_wellFormed_noticeConfigurationWrite :
    (Instr.noticeConfigurationWrite head .write (List.replicate 241 0)).wellFormed = false := by decide +kernel

/-! ### Decoding and frames -/

theorem test_decode_none : decodeTableWord 16 0x1234 = none := rfl

/-- The CRC of the nine digits, the common check value of generator 8005h preset FFFFh (R168). -/
theorem test_crc_digits :
    crc [0x31, 0x32, 0x33, 0x34, 0x35, 0x36, 0x37, 0x38, 0x39] = 0xAEE7 := by decide +kernel

/-- A PING to station 9 on tag 2 in the layout of R169. -/
theorem test_request_layout :
    (requestFrame { station := 9, function := 4, tag := 2, object := 0x1234, position := 0x5678, reqLen := 0,
                    payload := [] }).take 11
      = [0xC3, 0x01, 9, 4, 2, 0x12, 0x34, 0x56, 0x78, 0, 0] := by decide +kernel

/-- R172's worked frames: 12 bytes, a length field that does not fit, and tag 40. -/
theorem test_checks_short : checkRequest (List.replicate 12 0) 12 = .error 2 := by decide +kernel
theorem test_checks_length :
    checkRequest (sealFrame [1, 9, 2, 2, 0, 0, 0, 0, 0, 8, 1, 2, 3, 4, 5, 6, 7]) 20 = .error 2 := by decide +kernel
theorem test_checks_tag : checkRequest (sealFrame [1, 9, 1, 40, 0, 0, 0, 0, 0, 0]) 13 = .error 3 := by
  decide +kernel

/-! ### One step of every command -/

theorem test_entryWrite :
    (after (.entryWrite head .write 95 ((entryBytes (open95 .forward)).take 12)) ready).entry 95
      = open95 .forward := by decide +kernel
theorem test_descriptorWrite :
    (after (.descriptorWrite head .write 47 [3, 0x2F, 0x10, 0, 240, 0, 0, 0]) ready).record 47 = mirror240 := by
  decide +kernel
theorem test_recordDataWrite :
    Memory.readRun (after (.recordDataWrite { head with position := 2 } .write 47 [7, 0, 9])
      (ready.with47 fixed240)).rst.store 12049 5 = [0, 7, 0, 9, 0] := by decide +kernel
theorem test_stationRecordWrite :
    (after (.stationRecordWrite head .write 125 [2]) (ready.with126 .absent)).station 125
      = { home := some .b, presence := .unknown, failures := 0 } := by decide +kernel
theorem test_nodeWrite : (after (.nodeWrite head .write 19 [63, 1]) ready).node 19
    = { level := 63, enabled := true } := by decide +kernel
theorem test_generalConfigurationWrite : (after (.generalConfigurationWrite head .write [1, 15, 63]) ready).mga
    = { missAction := .forward, absenceThreshold := 15, baseFloor := 63 } := by decide +kernel
theorem test_segmentConfigurationWrite :
    (after (.segmentConfigurationWrite head .write .b [255, 7, 1, 0]) ready).segB.probeInterval = 256 := by
  decide +kernel
theorem test_noticeConfigurationWrite :
    (after (.noticeConfigurationWrite head .write [255]) ready).ntu.repeatInterval = 255 := by decide +kernel
theorem test_entryHold :
    ((after (.entryHold head 95) (ready.with95 (open95 .forward))).entry 95).hold = true := by decide +kernel
theorem test_entryRelease :
    ((after (.entryRelease head 95) (ready.with95 { open95 .forward with hold := true })).entry 95).hold = false := by
  decide +kernel
theorem test_entryBar :
    ((after (.entryBar head 95) (ready.with95 (open95 .forward))).entry 95).barred = true := by decide +kernel
theorem test_entryUnbar :
    ((after (.entryUnbar head 95) (ready.with95 { open95 .forward with barred := true })).entry 95).barred
      = false := by decide +kernel
theorem test_streamRewind :
    (after (.streamRewind head 47) (ready.with47 { stream240 with cursor := 8, remaining := 232 })).record 47
      = stream240 := by decide +kernel
theorem test_mirrorInvalidate :
    (after (.mirrorInvalidate head 47) (ready.with47 { mirror240 with mirrorState := .valid, age := 9 })).record 47
      = mirror240 := by decide +kernel
theorem test_segmentEnable : (after (.segmentEnable head 1) ready).segA.segState = .enabled := by decide +kernel
theorem test_segmentDisable :
    (after (.segmentDisable head 1) ready.enabledA).segA.segState = .disabled := by decide +kernel
theorem test_stationForget :
    ((after (.stationForget head 126) (ready.with126 .absent)).station 125).presence = .unknown := by decide +kernel
theorem test_noticeAck_stale :
    (after (.noticeAck head 19) ready).slot 5
      = { mgmtSlot (commandRequest head .noticeAck [19]) 0 with
          state := .sending, status := some .refused, reason := some .stale, source := some .none } := by
  decide +kernel
theorem test_noticeAck :
    (after (.noticeAck head 19) { ready with ntu := { (ready.ntu.updNode 19 (fun _ =>
        { level := 63, enabled := true, pending := true, count := 2, sent := 2 })) with
          offer := some { node := 19, state := .sent } } }).ntu.stack = [63] := by decide +kernel
theorem test_noticeDone :
    (after (.noticeDone head) { ready with ntu := { ready.ntu with stack := [9], floor := 9 } }).ntu.floor = 0 := by
  decide +kernel
theorem test_noticeForceSet : (after (.noticeForceSet head 19) ready).node 19 = { pending := true, count := 1 } := by
  decide +kernel
theorem test_noticeForceClear :
    (after (.noticeForceClear head 19) { ready with ntu := ready.ntu.gather 19 7 }).node 19 = { detail := 7 } := by
  decide +kernel
theorem test_countersClear :
    (after (.countersClear head) { ready with counters := { clashDrops := 4 } }).counters = {} := by decide +kernel
theorem test_restartTraffic :
    (after (.restartTraffic head) ready).mga.restart = some { tag := 5, scope := .traffic } := by decide +kernel
theorem test_restartFull :
    (after (.restartFull head) ready).mga.restart = some { tag := 5, scope := .full } := by decide +kernel
theorem test_upstreamFrameEnd :
    (after .upstreamFrameEnd (ready.hearing (ask 9 4 0 0 0 []))).slot 5
      = { occupiedSlot (ask 9 4 0 0 0 []) .localAnswer none with
          state := .sending, status := some .refused, reason := some .miss, source := some .none } := by
  decide +kernel
theorem test_dispatch :
    (after (.dispatch .a) ((ready.reading 126).enabledA.updSeg .a (fun g => { g with queue := [3] }))).segA.frame
      = requestFrame { ask 126 1 0 0 4 [] with tag := 3 } := by decide +kernel
theorem test_segmentFrameTxEnd :
    (after (.segmentFrameTxEnd .a) ((ready.reading 126).carryingA .sending)).segA.responseTimer = some 100 := by
  decide +kernel
theorem test_segmentFrameRxEnd :
    (after (.segmentFrameRxEnd .a) (((ready.reading 126).carryingA .awaiting).hearingA 126 3 0 [1, 2, 3, 4])).rtp.frame
      = responseFrame 126 3 0 0 [1, 2, 3, 4] := by decide +kernel
theorem test_responseTimerExpiry :
    (after (.responseTimerExpiry .a) ((ready.reading 126).carryingA .awaiting)).segA.failure = some .noAnswer := by
  decide +kernel
theorem test_gapEnd_retries :
    ((after (.gapEnd .a) ((ready.reading 126).carryingA .gap)).slot 3).attempts = 2 := by decide +kernel
theorem test_probeTimerExpiry :
    (after (.probeTimerExpiry .a) (ready.with126 .absent).enabledA).segA.carried = .probe 125 := by decide +kernel
theorem test_mirrorAgeTick :
    ((after .mirrorAgeTick (ready.with47 { mirror240 with mirrorState := .valid, age := 0xFFFF })).record 47).age
      = 0xFFFF := by decide +kernel
theorem test_startOfTransmission :
    (after .startOfTransmission
      { ready with ort := { ready.ort with clashQueue := [{ tag := 31, station := 126, function := 9 }] } }).rtp.frame
      = responseFrame 126 31 10 9 [] := by decide +kernel
theorem test_responseFrameEnd :
    (after .responseFrameEnd (after (.entryBar head 95) ready)).slot 5 = {} := by decide +kernel
theorem test_clashFrameEnd :
    (after .clashFrameEnd { ready with
      ort := { ready.ort with clashQueue := [{ tag := 31, station := 126, function := 9 }] },
      rtp := { ready.rtp with txState := .transmitting, carries := .clash } }).ort.clashQueue = [] := by decide +kernel
theorem test_noticeFrameEnd :
    (after .noticeFrameEnd (after (.nodeWrite head .write 0 [1, 1]) ready)).ntu.offer = none := by decide +kernel
theorem test_spacingEnd :
    (after .spacingEnd { ready with rtp := { ready.rtp with txState := .spacing } }).rtp.txState = .idle := by
  decide +kernel
theorem test_repeatTimerExpiry :
    (after .repeatTimerExpiry { ready with ntu := { ready.ntu with repeatTimer := some 25 } }).ntu.due = true := by
  decide +kernel
theorem test_resetAssert : (after (.resetAssert .full) ready).upRx.state = .waitIdle := by decide +kernel
theorem test_resetRelease :
    after .resetRelease { ready with resetAsserted := true } = State.reset := by decide +kernel
theorem test_powerUp : after .powerUp ready = State.reset := by decide +kernel
theorem test_receiverIdleGap : (after (.receiverIdleGap .upstream) State.reset).upRx.state = .ready := by
  decide +kernel
theorem test_receiverIdleGap_endsFrame :
    after (.receiverIdleGap .upstream) (ready.hearing (ask 9 4 0 0 0 []))
      = after .upstreamFrameEnd (ready.hearing (ask 9 4 0 0 0 [])) := by decide +kernel
theorem test_byteArrival : (after (.byteArrival .upstream 0xC3) ready).upRx.bytes = [0xC3] := by decide +kernel
theorem test_step_idles : step ready = .next ready := by rfl

/-! ### States that meet the hypotheses of the statements

One theorem for each statement that has hypotheses, named after it; a clause of a statement is one conjunct. -/

/-- Entry 95 with slot 4 in flight on it and, in slot 3, the ENTRY_HOLD that waits for it. -/
def quiescing : State :=
  ((((ready.with95 { open95 .forward with hold := true, inFlight := 1, holder := some 3 }).updSlot 4 (fun sl =>
    { sl with state := .queued, entry := some 95, attached := true, frameBuf := some 0 })).updSlot 3 (fun sl =>
      { sl with state := .waiting })).updAgent (fun m =>
        { m with pendingRecords := [{ tag := 3, command := .entryHold 95 }] }))

/-- Record 47 is a MIRROR record whose claim slot 4 holds, and entry 95 names it. -/
def claimed : State :=
  ((quiescing.with47 { mirror240 with claim := some 4 }).updSlot 4 (fun sl =>
    { sl with fillClaim := true, function := 1, reqLen := 240, station := 126 })).updEntry 95 (fun e =>
      { e with action := .mirror 47 })

theorem witness_EntryWriteReplacesEntry :
    quiescing.reachesAgent head.tag 0 ∧ head.position = 0 ∧ goodLength .exchange head
      ∧ ((entryBytes (open95 .forward)).take 12).length = 12
      ∧ entryOf ((entryBytes (open95 .forward)).take 12) = some (open95 .forward)
      ∧ quiescing.entryConsistent (open95 .forward) = true
      ∧ (quiescing.entry 95).holder = some 3 ∧ (quiescing.slot 3).state = .waiting := by decide +kernel

theorem witness_DescriptorWriteReplacesRecord :
    claimed.reachesAgent head.tag 0 ∧ goodLength .exchange head
      ∧ descriptorOf [3, 0x2F, 0x10, 0, 240, 0, 0, 0] = some mirror240
      ∧ mirror240.base + mirror240.size ≤ Config.storeSize ∧ claimed.overlapsOther 47 mirror240 = false
      ∧ (claimed.record 47).pins = 0 ∧ claimed.referenced 47 = true
      ∧ mirror240.kind = (claimed.record 47).kind ∧ mirror240.kind ≠ .none := by decide +kernel

theorem witness_RecordDataWriteStoresItsBytes :
    (claimed.reachesAgent head.tag 0 ∧ goodLength .write head ∧ claimed.storeLaw
      ∧ (claimed.record 47).base + (claimed.record 47).size = Config.storeSize ∧ (claimed.record 47).kind = .mirror
      ∧ head.position.toNat + (List.replicate 240 (1 : Byte)).length = (claimed.record 47).size
      ∧ (claimed.record 47).pins = 0)
    ∧ ((ready.with47 fixed240).reachesAgent head.tag 0 ∧ (ready.with47 fixed240).storeLaw
      ∧ ((ready.with47 fixed240).record 47).kind ≠ .mirror
      ∧ 239 + [(1 : Byte)].length = ((ready.with47 fixed240).record 47).size) := by decide +kernel

theorem witness_StationWriteAndForgetResetBelief :
    ready.reachesAgent head.tag 0 ∧ head.position = 0 ∧ goodLength .exchange head ∧ stationOf 125 = 126 := by
  decide +kernel

theorem witness_NodeWriteSetsLevelAndArbitrates :
    ready.reachesAgent head.tag 0 ∧ head.position = 0 ∧ goodLength .exchange head := by decide +kernel

theorem witness_ConfigurationWritesSetTheirFields :
    ready.reachesAgent head.tag 0 ∧ head.position = 0 ∧ goodLength .exchange head ∧ (15 : Fin 16) ≠ 0
      ∧ (1 : Byte) ≠ 0 ∧ (0xFFFF : Half) ≠ 0 := by decide +kernel

theorem witness_EntryHoldHoldsOrWaits :
    (quiescing.reachesAgent head.tag 0 ∧ (quiescing.entry 95).valid = true
      ∧ (quiescing.entry 95).holder.isSome = true)
    ∧ ((ready.with95 (open95 .forward)).reachesAgent head.tag 0
      ∧ ((ready.with95 (open95 .forward)).entry 95).holder = none
      ∧ ((ready.with95 (open95 .forward)).entry 95).inFlight = 0)
    ∧ ((ready.with95 { open95 .forward with inFlight := 32 }).reachesAgent head.tag 0
      ∧ 0 < ((ready.with95 { open95 .forward with inFlight := 32 }).entry 95).inFlight) := by decide +kernel

theorem witness_EntryReleaseBarAndUnbarSetFlags :
    (quiescing.reachesAgent head.tag 0 ∧ (quiescing.entry 95).valid = true
      ∧ (quiescing.entry 95).holder = some 3 ∧ (quiescing.slot 3).state = .waiting)
    ∧ ((ready.with95 (open95 .forward)).reachesAgent head.tag 0
      ∧ ((ready.with95 (open95 .forward)).entry 95).valid = true
      ∧ ((ready.with95 (open95 .forward)).entry 95).holder = none) := by decide +kernel

theorem witness_RecordCommandsAndTickActOnRecord :
    (claimed.reachesAgent head.tag 0 ∧ (claimed.record 47).kind = .mirror ∧ claimed.resetAsserted = false)
    ∧ ((ready.with47 stream240).reachesAgent head.tag 0 ∧ ((ready.with47 stream240).record 47).kind = .stream) := by
  decide +kernel

/-- Segment A drains for the disable that waits in slot 6. -/
def draining : State :=
  ((((ready.reading 126).carryingA .gap).updSlot 6 (fun sl => { sl with state := .waiting })).updSeg .a (fun g =>
    { g with
      segState := .draining, probeTimer := none, waitingDisable := some 6, finalMark := true })).updAgent
      (fun m => { m with pendingRecords := [{ tag := 6, command := .segmentDisable .a }] })

theorem witness_SegmentEnableEnables :
    (ready.reachesAgent head.tag 0 ∧ (ready.seg .a).segState = .disabled ∧ (ready.seg .a).queue = [])
    ∧ (draining.reachesAgent head.tag 0 ∧ (draining.seg .a).segState = .draining ∧ (draining.seg .a).queue = []
      ∧ (draining.seg .a).waitingDisable = some 6 ∧ (draining.slot 6).state = .waiting)
    ∧ (ready.enabledA.reachesAgent head.tag 0 ∧ (ready.enabledA.seg .a).segState = .enabled
      ∧ (ready.enabledA.seg .a).mayDispatch = false) := by decide +kernel

/-- Segment A is ENABLED with slots 4 and 7 queued; slot 4 is attached and holds a claim. -/
def queued : State :=
  (claimed.updSlot 7 (fun sl => { sl with state := .queued, station := 126 })).enabledA.updSeg .a (fun g =>
    { g with queue := [4, 7] })

/-- Segment A is ENABLED with slot 3 queued, and carries this work. -/
def queuedBehind (c : Carried) : State :=
  (ready.reading 126).enabledA.updSeg .a (fun g => { g with queue := [3], engine := .gap, carried := c })

theorem witness_SegmentDisableDisablesOrDrains :
    (ready.reachesAgent head.tag 0 ∧ (ready.seg .a).segState = .disabled)
    ∧ (draining.reachesAgent head.tag 0 ∧ (draining.seg .a).segState = .draining)
    ∧ (∀ c ∈ [Carried.nothing, .slot 4, .probe 125], (queuedBehind c).reachesAgent head.tag 0
      ∧ ((queuedBehind c).seg .a).segState = .enabled ∧ head.tag ∉ ((queuedBehind c).seg .a).queue
      ∧ ((queuedBehind c).seg .a).queue.Nodup ∧ ((queuedBehind c).seg .a).carried = c
      ∧ ∀ t ∈ ((queuedBehind c).seg .a).queue,
          ((queuedBehind c).slot t).attached = false ∧ ((queuedBehind c).slot t).fillClaim = false)
    ∧ (queued.reachesAgent head.tag 0 ∧ (queued.seg .a).segState = .enabled ∧ (queued.seg .a).queue = 4 :: [7]
      ∧ 4 ≠ head.tag ∧ queued.mayDepart 4) := by decide +kernel

/-- Node 19 is the offer, SENT with count 2. -/
def offering : State :=
  { ready with ntu := { (ready.ntu.updNode 19 (fun _ =>
      { level := 63, enabled := true, pending := true, count := 2, sent := 2 })) with
    offer := some { node := 19, state := .sent }, repeatTimer := some 25 } }

theorem witness_NoticeAckAndDoneServeTheStack :
    (offering.reachesAgent head.tag 0 ∧ offering.ntu.offer = some { node := 19, state := .sent })
    ∧ (ready.reachesAgent head.tag 0 ∧ ready.ntu.offer ≠ some { node := 19, state := .sent } ∧ ready.ntu.stack = [])
    ∧ ({ ready with ntu := { ready.ntu with stack := [9], floor := 9 } } : State).reachesAgent head.tag 0 := by
  decide +kernel

theorem witness_NoticeForceSetsAndClears : offering.reachesAgent head.tag 0 ∧ head.position = 0 := by decide +kernel

theorem witness_CountersClearAndRestartAreAccepted : offering.reachesAgent head.tag 0 ∧ head.position = 0 := by
  decide +kernel

/-- A frame of 13 bytes whose CRC fails. -/
def damaged : List Byte := List.replicate 13 0xC3

theorem witness_FramesFailingTheChecksAreDropped :
    crcPasses damaged = false
      ∧ (crcPasses (sealFrame [1, 9, 2, 2, 0, 0, 0, 0, 0, 8]) = true
        ∧ 13 ≠ 13 + (byteAt (sealFrame [1, 9, 2, 2, 0, 0, 0, 0, 0, 8]) 10).toNat)
      ∧ (crcPasses (sealFrame [1, 9, 1, 32, 0, 0, 0, 0, 0, 0]) = true
        ∧ byteAt (sealFrame [1, 9, 1, 32, 0, 0, 0, 0, 0, 0]) 10 = 0
        ∧ 31 < (byteAt (sealFrame [1, 9, 1, 32, 0, 0, 0, 0, 0, 0]) 4).toNat)
      ∧ (crcPasses (requestFrame (ask 127 1 0 0 0 [])) = true
        ∧ byteAt (requestFrame (ask 127 1 0 0 0 [])) 2 = 127)
      ∧ checkRequest damaged 13 = .error 1 := by decide +kernel

/-- The clash queue holds this many entries, and the tag of the requests is occupied. -/
def clashing (n : Nat) (s : State) : State :=
  { s.updSlot 5 (fun sl => { sl with state := .onWire }) with
    ort := { (s.updSlot 5 (fun sl => { sl with state := .onWire })).ort with
      clashQueue := List.replicate n { tag := 5, station := 0, function := 2 } } }

theorem witness_RequestsThatGetNoSlot :
    (({ ready with mga := { ready.mga with restart := some { tag := 0, scope := .full } } } : State).hearing
        (ask 126 1 0 0 0 [])).receives (ask 126 1 0 0 0 [])
    ∧ (∀ n ∈ [3, 4], ((clashing n ready).hearing (ask 127 2 0 0 0 [])).receives (ask 127 2 0 0 0 [])
      ∧ (((clashing n ready).hearing (ask 127 2 0 0 0 [])).slot 5).state ≠ .free
      ∧ ((clashing n ready).hearing (ask 127 2 0 0 0 [])).ort.clashQueue.length = n) := by decide +kernel

/-- Every management buffer is held. -/
def agentFull : State :=
  ((ready.updSlot 0 (fun sl => { sl with state := .waiting, mgmtBuf := some 0 })).updSlot 1 (fun sl =>
    { sl with state := .waiting, mgmtBuf := some 1 })).updSlot 2 (fun sl =>
      { sl with state := .waiting, mgmtBuf := some 2 }) |>.updSlot 3 (fun sl =>
        { sl with state := .waiting, mgmtBuf := some 3 })

theorem witness_RequestsRefusedBeforeLookup :
    ((agentFull.hearing (ask 127 1 1 0 5 [])).receives (ask 127 1 1 0 5 [])
      ∧ (agentFull.hearing (ask 127 1 1 0 5 [])).admits 5 ∧ agentFull.freeMgmtBuf = none)
    ∧ (∀ q ∈ [ask 126 4 0 0 0 [0], ask 126 3 0 0 241 [], ask 0 1 0 0 240 [], ask 126 5 0 0 240 []],
      (ready.hearing q).receives q ∧ (ready.hearing q).admits q.tag ∧ q.station ≠ 127) := by decide +kernel

theorem witness_LookupIsFirstMatch :
    ∃ m : EntryNo → Prop, ∀ e, m e ↔ ((ready.with95 (open95 .forward)).entry e).valid = true
      ∧ (((ready.with95 (open95 .forward)).entry e).key = .any ∧ (ask 126 1 0 0 0 []).station.val ≤ 126
        ∨ ∃ n, ((ready.with95 (open95 .forward)).entry e).key = .exact n
          ∧ n.val = (ask 126 1 0 0 0 []).station.val)
      ∧ ((ask 126 1 0 0 0 []).function = 1 ∧ ((ready.with95 (open95 .forward)).entry e).functions.read = true
        ∨ (ask 126 1 0 0 0 []).function = 2 ∧ ((ready.with95 (open95 .forward)).entry e).functions.write = true
        ∨ (ask 126 1 0 0 0 []).function = 3 ∧ ((ready.with95 (open95 .forward)).entry e).functions.exchange = true
        ∨ (ask 126 1 0 0 0 []).function = 4 ∧ ((ready.with95 (open95 .forward)).entry e).functions.ping = true)
      ∧ ((ready.with95 (open95 .forward)).entry e).objectLow.toNat ≤ (ask 126 1 0 0 0 []).object.toNat
      ∧ (ask 126 1 0 0 0 []).object.toNat ≤ ((ready.with95 (open95 .forward)).entry e).objectHigh.toNat :=
  ⟨_, fun _ => Iff.rfl⟩

/-- Entry 95 is the match of a request being received. -/
def hitting (e : Entry) (q : Request) (s : State) : State := (s.with95 e).hearing q

theorem witness_HitsAreCountedThenGated :
    ∀ e ∈ [{ open95 .forward with barred := true, hold := true }, { open95 .forward with hold := true }],
      (hitting e (ask 126 2 0xFFFF 0 0 []) ready).reachesLookup (ask 126 2 0xFFFF 0 0 [])
      ∧ (hitting e (ask 126 2 0xFFFF 0 0 []) ready).lookup (ask 126 2 0xFFFF 0 0 []) = some 95 := by decide +kernel

theorem witness_MissTakesTheDefaultAction :
    ∀ a ∈ [Fallback.refuse, .forward],
      (({ ready with mga := { ready.mga with missAction := a } } : State).hearing (ask 126 1 0 0 240 [])).reachesLookup
          (ask 126 1 0 0 240 [])
      ∧ (({ ready with mga := { ready.mga with missAction := a } } : State).hearing
          (ask 126 1 0 0 240 [])).lookup (ask 126 1 0 0 240 []) = none := by decide +kernel

theorem witness_FixedRecordAnswers :
    ∀ q ∈ [ask 126 1 0 0 240 [], ask 126 3 0 0 0 [1], ask 0 2 0 0 255 [], ask 126 4 0 0 0 []],
      (hitting (open95 (.answer 47)) q (ready.with47 fixed240)).reachesAction q 95
      ∧ ((hitting (open95 (.answer 47)) q (ready.with47 fixed240)).entry 95).action = .answer 47 := by decide +kernel

/-- A state whose STREAM record 47 has this much remaining. -/
def streaming (n : Nat) : State := ready.with47 { stream240 with cursor := 240 - n, remaining := n }

theorem witness_StreamRecordAnswersChunks :
    (∀ q ∈ [ask 126 1 0 0 240 [], ask 126 3 0 0 1 []],
      (hitting (open95 (.stream 47)) q (streaming 1)).reachesAction q 95
      ∧ 0 < ((hitting (open95 (.stream 47)) q (streaming 1)).record 47).remaining)
    ∧ (∀ q ∈ [ask 126 1 0 0 240 [], ask 126 3 0 0 1 []],
      (hitting (open95 (.stream 47)) q (streaming 0)).reachesAction q 95
      ∧ ((hitting (open95 (.stream 47)) q (streaming 0)).record 47).remaining = 0)
    ∧ ((hitting { open95 (.stream 47) with exhaustedAction := .forward } (ask 126 1 0 0 8 [])
        (streaming 0)).reachesAction (ask 126 1 0 0 8 []) 95)
    ∧ ∀ q ∈ [ask 126 2 0 0 0 [], ask 126 4 0 0 0 []],
      (hitting (open95 (.stream 47)) q (streaming 1)).reachesAction q 95 := by decide +kernel

/-- A state whose MIRROR record 47 is VALID at this age, with max age 9. -/
def mirroring (age : Half) : State := ready.with47 { mirror240 with mirrorState := .valid, maxAge := 9, age := age }

theorem witness_MirrorServesOrForwards :
    ((hitting (open95 (.mirror 47)) (ask 126 1 0 0 240 []) (mirroring 8)).reachesAction (ask 126 1 0 0 240 []) 95
      ∧ ((mirroring 8).record 47).age.toNat < ((mirroring 8).record 47).maxAge.toNat
      ∧ (ask 126 1 0 0 240 []).reqLen.toNat ≤ ((mirroring 8).record 47).length)
    ∧ ((hitting (open95 (.mirror 47)) (ask 126 1 0 0 240 []) (mirroring 9)).reachesAction (ask 126 1 0 0 240 []) 95
      ∧ ((mirroring 9).record 47).maxAge.toNat ≤ ((mirroring 9).record 47).age.toNat)
    ∧ ((hitting (open95 (.mirror 47)) (ask 126 1 0 1 240 []) (mirroring 8)).reachesAction (ask 126 1 0 1 240 []) 95)
    ∧ ((hitting (open95 (.mirror 47)) (ask 126 1 0 0 1 []) (ready.with47 mirror240)).reachesAction
        (ask 126 1 0 0 1 []) 95 ∧ ((ready.with47 mirror240).record 47).mirrorState = .invalid)
    ∧ ((hitting (open95 (.mirror 47)) (ask 126 4 0 0 0 []) (mirroring 8)).reachesAction (ask 126 4 0 0 0 []) 95)
    ∧ ((hitting (open95 .forward) (ask 0 2 0 0 0 []) ready).reachesAction (ask 0 2 0 0 0 []) 95) :=
  ⟨by decide +kernel, by decide +kernel, by decide +kernel, by decide +kernel, by decide +kernel, by decide +kernel⟩

/-- Every frame buffer is held. -/
def poolEmpty (s : State) : State :=
  { s with ort := { s.ort with slots := Vector.ofFn (fun (i : Fin 32) =>
    if h : 8 ≤ i.val then { state := .returning, frameBuf := some ⟨i.val - 8, by omega⟩ } else {}) } }

/-- Segment A's queue holds this many slots. -/
def queueOf (n : Nat) (s : State) : State :=
  s.enabledA.updSeg .a (fun g => { g with queue := List.replicate n 31 })

theorem witness_ForwardPathRefusesInOrder :
    ((ready.station 125).home = none ∧ stationOf 125 = 126)
    ∧ (ready.isAbsent 0 = false)
    ∧ (((ready.with126 .absent).station 125).home = some .a
      ∧ ((ready.with126 .absent).station 125).presence = .absent)
    ∧ (((ready.with126 .present).seg .a).segState ≠ .enabled)
    ∧ (((queueOf 12 (ready.with126 .present)).seg .a).segState = .enabled
      ∧ 12 ≤ ((queueOf 12 (ready.with126 .present)).seg .a).queue.length)
    ∧ ((((poolEmpty (ready.with126 .present)).enabledA).seg .a).queue.length < 12
      ∧ (poolEmpty (ready.with126 .present)).enabledA.freeFrameBuf = none
      ∧ ∀ i, stationOf i = 126 → ((poolEmpty (ready.with126 .present)).enabledA.station i).presence ≠ .absent) := by
  decide +kernel

/-- A state that queues a forward to station 126 on entry 95 and its MIRROR record. -/
def forwarding : State := (queueOf 11 ((ready.with126 .suspect).with47 mirror240)).with95 (open95 (.mirror 47))

theorem witness_ForwardIsQueued :
    forwarding.route (ask 126 1 0 0 240 []) (some 95) = some .a ∧ forwarding.isAbsent 126 = false
      ∧ (forwarding.seg .a).segState = .enabled ∧ (forwarding.seg .a).queue.length < 12
      ∧ forwarding.freeFrameBuf = some 0 ∧ (∀ r, (forwarding.record r).claim ≠ some 5)
      ∧ (some (95 : EntryNo)).bind (fun n => (forwarding.entry n).action.mirror?) = some 47
      ∧ (forwarding.record 47).mirrorState = .invalid ∧ (forwarding.record 47).claim = none
      ∧ (240 : Byte).toNat = (forwarding.record 47).length := by decide +kernel

/-- A request being received with record 47 MIRROR. -/
def managing (q : Request) : State := (ready.with47 mirror240).hearing q

theorem witness_AgentAnswersPingAndRead :
    ∀ q ∈ [ask 127 4 0 0 240 [], ask 127 1 0x0001 0 5 [], ask 127 1 0x0002 0 3 [], ask 127 1 (segmentObject .b) 0 7 [],
        ask 127 1 0x0005 0 9 [], ask 127 1 0x0020 0 72 [], ask 127 1 (entryObject 95) 0 20 [],
        ask 127 1 (descriptorObject 47) 0 17 [], ask 127 1 (recordDataObject 47) 239 240 [],
        ask 127 1 (stationObject 125) 0 3 [], ask 127 1 (nodeObject 19) 0 7 []],
      (managing q).receives q ∧ (managing q).admits q.tag ∧ q.station = 127 ∧ (managing q).freeMgmtBuf = some 0
        ∧ q.payload = [] ∧ q.reqLen.toNat ≤ 240
        ∧ (q.position ≠ 0 → q.position.toNat < ((managing q).record 47).size) := by decide +kernel

/-- The management requests that the agent's own checks refuse, with what their objects and checks are. -/
theorem witness_AgentRefusesInOrder :
    (∀ q ∈ [ask 127 1 1 0 5 [0], ask 127 4 0 0 241 [], ask 127 5 0 0 240 [], ask 127 1 0x0040 0 0 [],
        ask 127 1 0x0002 1 3 [], ask 127 1 (recordDataObject 47) 240 1 [], ask 127 1 (recordDataObject 0) 0 1 [],
        ask 127 2 0x0001 0 0 [], ask 127 3 0x0040 0 0 [0], ask 127 2 0x0002 1 0 [0, 1, 0],
        ask 127 3 0x0005 0 9 [1, 1]],
      (managing q).receives q ∧ (managing q).admits q.tag ∧ q.station = 127 ∧ (managing q).freeMgmtBuf = some 0)
    ∧ (objectOf 0x0040).readable = false ∧ (objectOf 0x0002).readable = true
    ∧ objectOf (recordDataObject 47) = .recordData 47 ∧ ((ready.with47 mirror240).record 47).size ≤ 240
    ∧ ((ready.with47 mirror240).record 0).kind = .none ∧ (objectOf 0x0001).writable = false
    ∧ (objectOf 0x0002).writable = true ∧ (objectOf 0x0005).writeSize = some 1 := by decide +kernel

/-- Record 47 pinned, and named by entry 95. -/
def pinned (n : Nat) : State := (ready.with47 { fixed240 with pins := n }).with95 (open95 (.answer 47))

theorem witness_WritesFailingACheckAreRefused :
    (ready.reachesAgent head.tag 0 ∧ head.position = 0 ∧ goodLength .exchange head)
    ∧ (entryOf (32 :: List.replicate 11 0) = none
      ∧ entryOf ((entryBytes { open95 .forward with objectLow := 1, objectHigh := 0 }).take 12)
          = some { open95 .forward with objectLow := 1, objectHigh := 0 }
      ∧ ready.entryConsistent { open95 .forward with objectLow := 1, objectHigh := 0 } = false)
    ∧ (descriptorOf [4, 0, 0, 0, 1, 0, 0, 0] = none
      ∧ descriptorOf [1, 0x2F, 0xFF, 0, 2, 0, 0, 0] = some { kind := .fixed, base := 12287, length := 2 }
      ∧ (pinned 1).overlapsOther 0 { kind := .fixed, base := 12287, length := 1 } = true
      ∧ (pinned 1).overlapsOther 47 fixed240 = false ∧ 0 < ((pinned 1).record 47).pins
      ∧ (pinned 0).reachesAgent head.tag 0 ∧ ((pinned 0).record 47).pins = 0 ∧ (pinned 0).referenced 47 = true
      ∧ mirror240.kind ≠ ((pinned 0).record 47).kind)
    ∧ (2 < (3 : Byte).toNat ∧ 63 < (64 : Byte).toNat ∧ 1 < (2 : Byte).toNat ∧ 15 < (16 : Byte).toNat
      ∧ 7 < (8 : Byte).toNat)
    ∧ ((pinned 1).reachesAgent head.tag 0
      ∧ ((pinned 1).record 47).size < 240 + [(0 : Byte)].length
      ∧ 239 + [(0 : Byte)].length ≤ ((pinned 1).record 47).size) := by decide +kernel

theorem witness_CommandsWithBadArgumentsAreRefused :
    (pinned 0).reachesAgent head.tag 0 ∧ head.position = 0
      ∧ (∀ e : EntryNo, (96 : Byte) = byteOf e.val → ((pinned 0).entry e).valid = false)
      ∧ (∀ e : EntryNo, (94 : Byte) = byteOf e.val → ((pinned 0).entry e).valid = false)
      ∧ (∀ r : RecordNo, (47 : Byte) = byteOf r.val → ((pinned 0).record r).kind ≠ .stream)
      ∧ (∀ r : RecordNo, (47 : Byte) = byteOf r.val → ((pinned 0).record r).kind ≠ .mirror)
      ∧ ((0 : Byte) ≠ 1 ∧ (0 : Byte) ≠ 2) ∧ 126 < (127 : Byte).toNat ∧ 19 < (20 : Byte).toNat
      ∧ (∀ q ∈ [ask 127 2 0x004D 0 0 [0], ask 127 2 0x004D 0 0 [3], ask 127 2 0x004B 0 0 [20, 3],
          ask 127 2 0x004B 0 0 [19, 4], ask 127 2 0x004B 0 0 [19, 0], ask 127 2 0x004B 0 0 [0, 3]],
        (managing q).receives q ∧ (managing q).admits q.tag ∧ q.station = 127
          ∧ (managing q).freeMgmtBuf = some 0 ∧ q.function = 2 ∧ q.position = 0) := by decide +kernel

theorem witness_DispatchTakesTheQueueHead :
    (∀ p ∈ [Presence.suspect, .absent],
      let s := queued.with126 p
      s.resetAsserted = false ∧ (s.seg .a).engine = .idle ∧ (s.seg .a).segState = .enabled
        ∧ (s.seg .a).queue = 4 :: [7] ∧ (s.seg .a).probeDue = false ∧ stationOf 125 = (s.slot 4).station
        ∧ (s.station 125).presence = p)
    ∧ ∀ i, stationOf i = ((queued.with126 .suspect).slot 4).station →
        ((queued.with126 .suspect).station i).presence ≠ .absent := by decide +kernel

theorem witness_DepartureActsOnEntry :
    claimed.mayDepart 4 ∧ claimed.quiesced 4 = some 3 ∧ claimed.claims 4 (some 47)
      ∧ (ready.reading 126).mayDepart 3 ∧ (ready.reading 126).claims 3 none := by decide +kernel

/-- A probe is due on segment A, whose probe pointer stands at station 126. -/
def probing : State :=
  (ready.with126 .absent).enabledA.updSeg .a (fun g => { g with probeDue := true, probePointer := 125 })

/-- A probe is due on segment A, and no station homed on it is ABSENT. -/
def unprobed : State := (ready.with126 .suspect).enabledA.updSeg .a (fun g => { g with probeDue := true })

theorem witness_ProbesFallDueAndAreSent :
    (probing.resetAsserted = false ∧ (probing.seg .a).engine = .idle ∧ (probing.seg .a).segState = .enabled
      ∧ (probing.seg .a).probeDue = true ∧ (probing.station 125).home = some .a
      ∧ (probing.station 125).presence = .absent
      ∧ ∀ j : StationNo, (j - (probing.seg .a).probePointer).val < ((125 : StationNo) - (probing.seg .a).probePointer).val →
          ¬ ((probing.station j).home = some .a ∧ (probing.station j).presence = .absent))
    ∧ ((unprobed.seg .a).engine = .idle ∧ (unprobed.seg .a).segState = .enabled
      ∧ (unprobed.seg .a).probeDue = true ∧ (unprobed.seg .a).queue = []
      ∧ ∀ i, ¬ ((unprobed.station i).home = some .a ∧ (unprobed.station i).presence = .absent))
    ∧ (probing.seg .a).probeTimer.isSome = true
    ∧ (((ready.reading 126).carryingA .sending).seg .a).probeTimer.isSome = true
    ∧ (((ready.reading 126).carryingA .sending).seg .a).engine ≠ .idle := by decide +kernel

/-- Slot 4, attached and claiming, is carried by segment A in this engine state. -/
def carried (e : Engine) : State :=
  (claimed.updSlot 4 (fun sl => { sl with state := .onWire, attempts := 1 })).enabledA.updSeg .a (fun g => { g with
    engine := e, carried := .slot 4, responseTimer := if e = .awaiting then some 100 else none
    failure := if e = .gap then some .corrupt else none })

/-- Segment A carries the probe of station 126 in this engine state. -/
def probeCarried (e : Engine) : State :=
  (ready.with126 .absent).enabledA.updSeg .a (fun g => { g with
    engine := e, carried := .probe 125, responseTimer := if e = .awaiting then some 100 else none })

/-- Slot 4's broadcast WRITE of 240 bytes is on the wire, with a claim. -/
def broadcasting : State :=
  { (carried .sending).updSlot 4 (fun sl => { sl with station := 0, function := 2, payloadLen := 240 }) with
    ort := { ((carried .sending).updSlot 4 (fun sl =>
      { sl with station := 0, function := 2, payloadLen := 240 })).ort with
        frameBuffers := Vector.replicate 24 (List.replicate 240 1) } }

theorem witness_SegmentFrameEndAwaitsOrCompletesBroadcast :
    ((carried .sending).resetAsserted = false ∧ ((carried .sending).seg .a).engine = .sending
      ∧ ((carried .sending).seg .a).carried = .slot 4 ∧ ((carried .sending).slot 4).station ≠ 0)
    ∧ (((probeCarried .sending).seg .a).engine = .sending
      ∧ ((probeCarried .sending).seg .a).carried = .probe 125)
    ∧ ((broadcasting.seg .a).carried = .slot 4 ∧ (broadcasting.slot 4).station = 0 ∧ broadcasting.mayDepart 4
      ∧ broadcasting.claims 4 (some 47) ∧ broadcasting.mayFill 4 (some 47) .done 0) := by decide +kernel

theorem witness_ReceivedSegmentFrameIsJudged :
    (∀ e ∈ [Engine.idle, .sending, .awaiting, .gap],
      let s := (carried e).hearingA 126 4 0 []
      s.resetAsserted = false ∧ (s.seg .a).rx.state = .receiving ∧ (s.seg .a).rx.lost = false
        ∧ (s.seg .a).segState ≠ .disabled ∧ (s.seg .a).engine = e)
    ∧ ((ready.hearingA 126 4 0 []).seg .a).segState = .disabled
    ∧ (let s := (carried .awaiting).hearingA 126 5 0 []
      checkResponse (s.seg .a).rx.bytes (s.seg .a).rx.count = some { station := 126, tag := 5, status := 0, payload := [] })
    ∧ (let s := (carried .awaiting).hearingA 126 4 3 []
      checkResponse (s.seg .a).rx.bytes (s.seg .a).rx.count = some { station := 126, tag := 4, status := 3, payload := [] })
    ∧ (let s := (probeCarried .awaiting).hearingA 126 0 255 []
      checkResponse (s.seg .a).rx.bytes (s.seg .a).rx.count
        = some { station := 126, tag := 0, status := 255, payload := [] })
    ∧ checkResponse damaged 13 = none := by decide +kernel

/-- Slot 4 awaits the answer of a request with this function, and the answer has been received. -/
def answered (function : Byte) (status : Byte) (payload : List Byte) : State :=
  ((carried .awaiting).updSlot 4 (fun sl => { sl with function := function, reqLen := 2 })).with47
    { mirror240 with length := 2, claim := some 4 } |>.hearingA 126 4 status payload

theorem witness_AcceptedResponseEndsTransaction :
    ∀ a ∈ [((1 : Byte), (1 : Byte), ([] : List Byte), Status.busy), (1, 2, [], .refused), (1, 0, [7, 8], .done),
        (3, 0, [7], .short), (1, 0, [7, 8, 9], .overrun), (4, 0, [], .done), (4, 0, [7], .overrun)],
      let s := answered a.1 a.2.1 a.2.2.1
      s.resetAsserted = false ∧ (s.seg .a).rx.state = .receiving ∧ (s.seg .a).rx.lost = false
        ∧ (s.seg .a).segState ≠ .disabled ∧ (s.seg .a).engine = .awaiting ∧ (s.seg .a).carried = .slot 4
        ∧ checkResponse (s.seg .a).rx.bytes (s.seg .a).rx.count
          = some { station := 126, tag := 4, status := a.2.1, payload := a.2.2.1 }
        ∧ stationOf 125 = (s.slot 4).station ∧ (126 : Byte) = byteOf (s.slot 4).station ∧ (s.slot 4).frameBuf = some 0
        ∧ s.mayDepart 4 ∧ s.claims 4 (some 47) ∧ s.mayFill 4 (some 47) a.2.2.2 a.2.2.1.length := by
  decide +kernel

theorem witness_AnsweredProbeFindsStation :
    let s := (probeCarried .awaiting).hearingA 126 0 2 []
    s.resetAsserted = false ∧ (s.seg .a).rx.state = .receiving ∧ (s.seg .a).rx.lost = false
      ∧ (s.seg .a).segState ≠ .disabled ∧ (s.seg .a).engine = .awaiting ∧ (s.seg .a).carried = .probe 125
      ∧ checkResponse (s.seg .a).rx.bytes (s.seg .a).rx.count
        = some { station := 126, tag := 0, status := 2, payload := [] }
      ∧ (126 : Byte) = byteOf (stationOf 125) := by decide +kernel

theorem witness_AttemptsTimeOutAndAreRetried :
    (∀ s ∈ [carried .awaiting, probeCarried .awaiting], s.resetAsserted = false ∧ (s.seg .a).engine = .awaiting
      ∧ (s.seg .a).responseTimer.isSome = true)
    ∧ ∀ n ∈ [1, 2],
      let s := (carried .gap).updSlot 4 (fun sl => { sl with attempts := n })
      s.resetAsserted = false ∧ (s.seg .a).engine = .gap ∧ (s.seg .a).carried = .slot 4
        ∧ (s.slot 4).attempts ≤ (s.seg .a).retryLimit.val ∧ (s.seg .a).finalMark = false := by decide +kernel

theorem witness_LastFailureTakesOutcome :
    let s := (carried .gap).updSlot 4 (fun sl => { sl with attempts := 3 })
    s.resetAsserted = false ∧ (s.seg .a).engine = .gap ∧ (s.seg .a).carried = .slot 4
      ∧ (s.seg .a).retryLimit.val < (s.slot 4).attempts ∧ (s.seg .a).failure = some .corrupt
      ∧ stationOf 125 = (s.slot 4).station ∧ (1 : Fin 16).val = min 15 ((s.station 125).failures.val + 1)
      ∧ s.mayDepart 4 ∧ s.claims 4 (some 47) := by decide +kernel

theorem witness_GapEndRestsDispatchesOrDrains :
    (∀ x ∈ [SegState.enabled, .disabled],
      let s := ready.updSeg .a (fun g => { g with segState := x, engine := .gap })
      s.resetAsserted = false ∧ (s.seg .a).engine = .gap ∧ (s.seg .a).carried = .nothing ∧ (s.seg .a).segState = x)
    ∧ (let s := draining.updSeg .a (fun g => { g with carried := .nothing })
      s.resetAsserted = false ∧ (s.seg .a).engine = .gap ∧ (s.seg .a).carried = .nothing
        ∧ (s.seg .a).segState = .draining ∧ (s.seg .a).waitingDisable = some 6) := by decide +kernel

/-- Nodes 3 and 19 are pending and enabled on level 5. -/
def pendingNodes : NoticeUnit :=
  (ready.ntu.updNode 3 (fun _ => { level := 5, enabled := true, pending := true, count := 1 })).updNode 19 (fun _ =>
    { level := 5, enabled := true, pending := true, count := 1 })

theorem witness_ArbitrationOffersTheWinner :
    pendingNodes.eligible 3 = true ∧ pendingNodes.eligible 19 = true ∧ pendingNodes.winner = some 3
      ∧ pendingNodes.offer = none ∧ (∀ k, ready.ntu.eligible k = false)
      ∧ ({ pendingNodes with offer := some { node := 19, state := .sent } } : NoticeUnit).winner = some 3 := by
  decide +kernel

theorem witness_NoticeFrameEndMarksTheOfferSent :
    (let s := { offering with rtp := { offering.rtp with
        txState := .transmitting, carries := .notice, latch := { node := 19, level := 63, count := 1 } } };
      s.resetAsserted = false ∧ s.rtp.txState = .transmitting ∧ s.rtp.carries = .notice
        ∧ s.ntu.offer = some { node := 19, state := .sent } ∧ (19 : NodeNo) = s.rtp.latch.node
        ∧ (1 : Byte).toNat = min s.rtp.latch.count.toNat (s.ntu.node 19).count.toNat)
    ∧ ready.ntu.offer = none ∧ offering.ntu.repeatTimer.isSome = true := by decide +kernel

/-- Slot 3 waits in the return queue with this payload source. -/
def returning (src : PayloadSource) : State :=
  { (ready.with47 fixed240).updSlot 3 (fun sl => { sl with
      state := .returning, status := some .done, reason := some .none, source := some src
      frameBuf := some 23, mgmtBuf := some 3 }) with rtp := { ready.rtp with queue := [3] } }

theorem witness_StartTakesTheFirstSource :
    (ready.resetAsserted = false ∧ ready.rtp.txState = .idle ∧ ready.rtp.queue = [] ∧ ready.ort.clashQueue = []
      ∧ ready.ntu.due = false)
    ∧ ((after (.noticeForceSet head 19) (after (.nodeWrite head .write 19 [1, 1]) ready)).rtp.txState ≠ .idle)
    ∧ (let s := { offering with ntu := { offering.ntu with due := true } }
      s.rtp.txState = .idle ∧ s.ntu.due = true ∧ s.ntu.offer = some { node := 19, state := .sent })
    ∧ ((clashing 4 ready).rtp.txState = .idle ∧ (clashing 4 ready).ntu.due = false
      ∧ (clashing 4 ready).ort.clashQueue ≠ [])
    ∧ ∀ src ∈ [PayloadSource.none, .buffer 240, .record 47 12048 240, .management 240],
      let s := returning src
      s.rtp.txState = .idle ∧ s.ntu.due = false ∧ s.ort.clashQueue = [] ∧ s.rtp.queue = [3]
        ∧ (s.slot 3).status = some .done ∧ (s.slot 3).reason = some .none ∧ (s.slot 3).source = some src
        ∧ (s.slot 3).frameBuf = some 23 ∧ (s.slot 3).mgmtBuf = some 3 := by decide +kernel

/-- The transmitter carries this. -/
def transmitting (c : TxCarried) (s : State) : State :=
  { s with rtp := { s.rtp with txState := .transmitting, carries := c } }

theorem witness_ResponseFrameEndsFreeWhatTheyHeld :
    (let s := transmitting (.slot 3) (returning (.record 47 12048 240));
      s.resetAsserted = false ∧ s.rtp.txState = .transmitting ∧ s.rtp.carries = .slot 3 ∧ s.mga.restart = none)
    ∧ (transmitting .clash (clashing 1 ready)).rtp.carries = .clash
    ∧ ({ ready with rtp := { ready.rtp with txState := .spacing } } : State).rtp.txState = .spacing := by
  decide +kernel

theorem witness_PerformedRestartsActByScope :
    ∀ x ∈ [Scope.traffic, .full],
      let s := transmitting (.slot 3) { ready with mga := { ready.mga with restart := some { tag := 3, scope := x } } }
      s.resetAsserted = false ∧ s.rtp.txState = .transmitting ∧ s.rtp.carries = .slot 3
        ∧ s.mga.restart = some { tag := 3, scope := x } := by decide +kernel

/-- The free value is one of the two in every state. -/
theorem witness_ResetAndPowerUpTakePowerOnValues :
    (({ ready with resetAsserted := true } : State).resetAsserted = true ∧ ready.resetAsserted = false)
      ∧ (Config.shortPulseTaken ready.freeIndex = true ∨ Config.shortPulseTaken ready.freeIndex = false) :=
  ⟨by decide +kernel, by cases Config.shortPulseTaken ready.freeIndex <;> simp⟩

theorem witness_AssertedResetHoldsEverything :
    ({ ready with resetAsserted := true } : State).resetAsserted = true
      ∧ Instr.mirrorAgeTick ≠ .resetAssert .full ∧ Instr.mirrorAgeTick ≠ .resetAssert .short
      ∧ Instr.mirrorAgeTick ≠ .resetRelease ∧ Instr.mirrorAgeTick ≠ .powerUp := by decide +kernel

/-- Segment A's receiver has a frame of this length in progress, lost or not. -/
def hearing (n : Nat) (lost : Bool) : State :=
  ready.updSeg .a (fun g => { g with rx := {
    state := .receiving, bytes := List.replicate n 0, count := n, lost := lost } })

theorem witness_ReceiversFollowTheirStates :
    ready.resetAsserted = false ∧ State.reset.resetAsserted = false
      ∧ (State.reset.upRx.state = .waitIdle ∧ (State.reset.seg .a).rx.state = .waitIdle)
      ∧ (ready.upRx.state = .ready ∧ (ready.seg .a).rx.state = .ready ∧ (ready.seg .a).engine ≠ .sending)
      ∧ (((ready.reading 126).carryingA .sending).seg .a).engine = .sending
      ∧ (∀ n ∈ [252, 253], (let s : State := { ready with upRx := {
          state := .receiving, bytes := List.replicate n 0, count := n } }
        s.upRx.state = .receiving ∧ s.upRx.bytes.length = n))
      ∧ (∀ n ∈ [248, 249], ((hearing n false).seg .a).rx.state = .receiving
        ∧ ((hearing n false).seg .a).rx.bytes.length = n ∧ ((hearing n false).seg .a).engine ≠ .sending)
      ∧ ((hearing 1 true).seg .a).rx.state = .receiving ∧ ((hearing 1 true).seg .a).rx.lost = true := by
  decide +kernel

theorem witness_EventsOutOfPlaceChangeNothing :
    ready.resetAsserted = false ∧ (ready.seg .a).engine = .idle ∧ (ready.seg .a).segState ≠ .enabled
      ∧ (ready.seg .a).rx.state = .ready ∧ (ready.seg .a).responseTimer = none ∧ (ready.seg .a).probeTimer = none
      ∧ ready.upRx.state = .ready ∧ ready.rtp.txState = .idle ∧ ready.ntu.repeatTimer = none
      ∧ State.reset.resetAsserted = false ∧ State.reset.upRx.state = .waitIdle
      ∧ (State.reset.seg .a).rx.state = .waitIdle
      ∧ requestOfRow (.entryBar head 95) = some (commandRequest head .entryBar [95]) := by decide +kernel

theorem witness_EveryCommandCompletes : ready.pending = [] := rfl

theorem witness_ArrivingFrameIsItsRow :
    let q := commandRequest head .entryBar [95]
    let s := { ready with
      pending := (requestFrame q).map (Instr.byteArrival .upstream) ++ [Instr.upstreamFrameEnd] }
    s.resetAsserted = false ∧ s.upRx.state = .ready ∧ q.payload.length ≤ 240
      ∧ s.pending = (requestFrame q).map (Instr.byteArrival .upstream) ++ [.upstreamFrameEnd]
      ∧ requestOfRow (.entryBar head 95) = some q := by decide +kernel

theorem witness_ResponseFramesRoundTrip : (List.replicate 240 (0 : Byte)).length ≤ 240 := by decide +kernel

theorem witness_TableLayoutsRoundTrip :
    descriptorOf [2, 0x2F, 0xFF, 0x30, 0x00, 240, 0, 0]
      = some { kind := .stream, base := 12287, total := 12288, chunk := 240, remaining := 12288 }
      ∧ [2, 0x2F, 0xFF, 0x30, 0x00, 240, 0, (0 : Byte)].length = 8
      ∧ entryOf [31, 0xFF, 15, 0, 0, 0xFF, 0xFF, 0, 0, 1, 2, 255] = some { open95 .forward with
          hold := true, barred := true, holdAfterDone := true, holdOnShort := true, exhaustedAction := .forward
          broadcast := .b, interval := 255 }
      ∧ [31, 0xFF, 15, 0, 0, 0xFF, 0xFF, 0, 0, 1, 2, (255 : Byte)].length = 12 := by decide +kernel

theorem witness_EveryStepKeepsTheReplyStoreLaws :
    step { ready with pending := [.mirrorAgeTick] } = .next (after .mirrorAgeTick ready)
      ∧ ready.storeLaw ∧ ready.regionLaw ∧ ready.recordLaw := by
  refine ⟨rfl, ?_⟩
  decide +kernel

theorem witness_EveryStepKeepsTheFieldLaws :
    step { ready with pending := [.powerUp] } = .next State.reset ∧ ready.phaseLaw ∧ ready.presenceLaw := by
  refine ⟨rfl, by decide +kernel, by decide +kernel, ?_, by decide +kernel, by decide +kernel⟩
  intro x; cases x <;> decide +kernel

theorem witness_EveryStepKeepsTheNoticeLaw :
    step { offering with pending := [.powerUp] } = .next State.reset ∧ offering.noticeLaw := by
  refine ⟨rfl, ?_⟩
  decide +kernel

theorem witness_EveryStepKeepsEverySlotPlacedAndAccounted :
    step { ready with pending := [.powerUp] } = .next State.reset ∧ ready.placeLaw ∧ ready.accountLaw := by
  refine ⟨rfl, ⟨by decide +kernel, ⟨by decide +kernel, ?_, by decide +kernel⟩, by decide +kernel, by decide +kernel,
    by decide +kernel, ?_, ?_, ?_, ?_, ?_, by decide +kernel, ?_, by decide +kernel⟩, by decide +kernel⟩ <;>
  (intro x; cases x <;> decide +kernel)

theorem witness_EveryStepKeepsHoldingsAndClaims :
    step { ready with pending := [.powerUp] } = .next State.reset ∧ ready.holdLaw ∧ ready.claimLaw := by
  refine ⟨rfl, ⟨by decide +kernel, fun t h => absurd h ((by decide +kernel :
    ∀ t, ¬ ((ready.slot t).state = .returning ∨ (ready.slot t).state = .sending)) t), ?_, ?_⟩, by decide +kernel⟩ <;>
  (intro x; cases x <;> decide +kernel)

end Sys2Proof.Tests
end

/-! # PROOFS. The power-on values (O45). -/

namespace Sys2Proof.Machine
namespace State

/-! ## The tables after reset (R166) -/

@[simp] theorem reset_slot (t : Tag) : State.reset.slot t = {} := Vector.getElem_replicate t.isLt
@[simp] theorem reset_entry (e : EntryNo) : State.reset.entry e = {} := Vector.getElem_replicate e.isLt
@[simp] theorem reset_record (r : RecordNo) : State.reset.record r = {} := Vector.getElem_replicate r.isLt
@[simp] theorem reset_station (i : StationNo) : State.reset.station i = {} := Vector.getElem_replicate i.isLt
@[simp] theorem reset_node (k : NodeNo) : State.reset.node k = {} := Vector.getElem_replicate k.isLt
@[simp] theorem reset_seg (x : Seg) : State.reset.seg x = {} := by cases x <;> rfl

/-- Every frame buffer is free after reset (R47, R51). -/
theorem reset_freeFrameBuf : State.reset.freeFrameBuf = some 0 := by decide

/-- Every management buffer is free after reset (R48, R51). -/
theorem reset_freeMgmtBuf : State.reset.freeMgmtBuf = some 0 := by decide

end State

/-- Settles O45, block by block from the tables after reset. -/
theorem resetHoldsPowerOnValues : Obligations.ResetHoldsPowerOnValues := by
  unfold Obligations.ResetHoldsPowerOnValues
  exact ⟨State.reset_slot, rfl, State.reset_freeFrameBuf, State.reset_freeMgmtBuf, State.reset_entry,
    fun _ => rfl, State.reset_record, State.reset_seg, State.reset_station, rfl, State.reset_node,
    rfl, rfl, rfl, rfl, rfl, rfl, rfl, rfl, rfl⟩

end Sys2Proof.Machine

/-! # PROOFS. The fields that the phase law and the presence law speak of, and the operations that leave them alone. -/

namespace Sys2Proof.Machine

/-! ## What the field laws speak of -/

/-- The fields that the phase law and the presence law speak of: of each entry the interval and the hit phase, the
station records, of each segment the response timeout and the probe interval, the repeat interval and the absence
threshold. -/
structure FieldView where
  hits           : EntryNo → Byte × Byte
  stations       : StationNo → StationRecord
  timing         : Seg → Byte × Half
  repeatInterval : Byte
  threshold      : Fin 16

/-- The fields of a state that its field laws speak of. -/
def State.fieldView (s : State) : FieldView where
  hits           := fun e => ((s.entry e).interval, (s.entry e).phase)
  stations       := s.station
  timing         := fun x => ((s.seg x).respTimeout, (s.seg x).probeInterval)
  repeatInterval := s.ntu.repeatInterval
  threshold      := s.mga.absenceThreshold

/-- The phase law of one entry (R8). -/
def Entry.phaseInRange (e : Entry) : Prop :=
  (e.interval = 0 → e.phase = 0) ∧ (e.interval ≠ 0 → e.phase.toNat < e.interval.toNat)

/-- The presence law of one station record (R102). -/
def StationRecord.countsAgree (r : StationRecord) : Prop :=
  (r.presence = .present ∨ r.presence = .unknown → r.failures = 0) ∧ (r.presence = .suspect → r.failures ≠ 0)

/-- A change of the state keeps the phase law and the presence law. -/
structure State.KeepsFields (s t : State) : Prop where
  phase    : s.phaseLaw → t.phaseLaw
  presence : s.presenceLaw → t.presenceLaw

namespace State

theorem phaseLaw_iff (s : State) : s.phaseLaw ↔ ∀ e, (s.entry e).phaseInRange := Iff.rfl

theorem presenceLaw_iff (s : State) : s.presenceLaw ↔ (∀ i, (s.station i).countsAgree)
    ∧ (∀ x, (s.seg x).respTimeout ≠ 0 ∧ (s.seg x).probeInterval ≠ 0)
    ∧ s.ntu.repeatInterval ≠ 0 ∧ s.mga.absenceThreshold ≠ 0 := Iff.rfl

theorem phaseLaw_of_view {s t : State} (h : t.fieldView = s.fieldView) (hs : s.phaseLaw) : t.phaseLaw := by
  intro e
  have he : ((t.entry e).interval, (t.entry e).phase) = ((s.entry e).interval, (s.entry e).phase) :=
    congrFun (congrArg FieldView.hits h) e
  obtain ⟨hi, hp⟩ := Prod.mk.inj he
  rw [hi, hp]
  exact hs e

theorem presenceLaw_of_view {s t : State} (h : t.fieldView = s.fieldView) (hs : s.presenceLaw) :
    t.presenceLaw := by
  obtain ⟨hst, hseg, hrep, hthr⟩ := hs
  refine ⟨fun i => ?_, fun x => ?_, ?_, ?_⟩
  · have hi : t.station i = s.station i := congrFun (congrArg FieldView.stations h) i
    rw [hi]
    exact hst i
  · have hx : ((t.seg x).respTimeout, (t.seg x).probeInterval) = ((s.seg x).respTimeout, (s.seg x).probeInterval) :=
      congrFun (congrArg FieldView.timing h) x
    obtain ⟨h1, h2⟩ := Prod.mk.inj hx
    rw [h1, h2]
    exact hseg x
  · have hr : t.ntu.repeatInterval = s.ntu.repeatInterval := congrArg FieldView.repeatInterval h
    rwa [hr]
  · have ht : t.mga.absenceThreshold = s.mga.absenceThreshold := congrArg FieldView.threshold h
    rwa [ht]

namespace KeepsFields

/-- A change of other fields keeps both laws. -/
theorem of_view {s t : State} (h : t.fieldView = s.fieldView) : s.KeepsFields t :=
  ⟨phaseLaw_of_view h, presenceLaw_of_view h⟩

theorem refl (s : State) : s.KeepsFields s := ⟨id, id⟩

theorem trans {s t u : State} (h : s.KeepsFields t) (h' : t.KeepsFields u) : s.KeepsFields u :=
  ⟨h'.phase ∘ h.phase, h'.presence ∘ h.presence⟩

/-- A change that keeps both laws, before a change of other fields. -/
theorem then_view {s t u : State} (h : s.KeepsFields t) (h' : u.fieldView = t.fieldView) : s.KeepsFields u :=
  h.trans (of_view h')

/-- A change that keeps both laws, after a change of other fields. -/
theorem after_view {s t u : State} (h' : t.fieldView = s.fieldView) (h : t.KeepsFields u) : s.KeepsFields u :=
  (of_view h').trans h

end KeepsFields

variable (s : State)

/-! ## Changes of other fields: the named operations -/

@[simp] theorem updSlot_fieldView (t : Tag) (f : Slot → Slot) : (s.updSlot t f).fieldView = s.fieldView := rfl
@[simp] theorem updRecord_fieldView (r : RecordNo) (f : Record → Record) :
    (s.updRecord r f).fieldView = s.fieldView := rfl
@[simp] theorem updCounters_fieldView (f : Counters → Counters) : (s.updCounters f).fieldView = s.fieldView := rfl
@[simp] theorem updReturn_fieldView (f : ReturnPath → ReturnPath) : (s.updReturn f).fieldView = s.fieldView := rfl
@[simp] theorem writeFrameBuffer_fieldView (k : Fin 24) (bs : List Byte) :
    (s.writeFrameBuffer k bs).fieldView = s.fieldView := rfl
@[simp] theorem writeMgmtBuffer_fieldView (k : Fin 4) (bs : List Byte) :
    (s.writeMgmtBuffer k bs).fieldView = s.fieldView := rfl
@[simp] theorem writeStore_fieldView (a : Nat) (bs : List Byte) : (s.writeStore a bs).fieldView = s.fieldView := rfl
@[simp] theorem detachAll_fieldView (e : EntryNo) : (s.detachAll e).fieldView = s.fieldView := rfl
@[simp] theorem pushClash_fieldView (c : ClashEntry) : (s.pushClash c).fieldView = s.fieldView := rfl
@[simp] theorem popClash_fieldView : s.popClash.fieldView = s.fieldView := rfl
@[simp] theorem readyRx_fieldView : s.readyRx.fieldView = s.fieldView := rfl
@[simp] theorem mirrorAgeTick_fieldView : s.mirrorAgeTick.fieldView = s.fieldView := rfl

@[simp] theorem clearCounters_fieldView : s.clearCounters.fieldView = s.fieldView := by
  simp only [fieldView, FieldView.mk.injEq]
  refine ⟨rfl, rfl, funext fun x => ?_, rfl, rfl⟩
  cases x <;> rfl

@[simp] theorem updEntry_fieldView (e : EntryNo) (f : Entry → Entry)
    (h : ∀ en, (f en).interval = en.interval ∧ (f en).phase = en.phase) :
    (s.updEntry e f).fieldView = s.fieldView := by
  simp only [fieldView, FieldView.mk.injEq]
  refine ⟨funext fun n => ?_, rfl, rfl, rfl, rfl⟩
  by_cases hn : n = e <;> simp [hn, h]

@[simp] theorem updSeg_fieldView (x : Seg) (f : Segment → Segment)
    (h : ∀ g, (f g).respTimeout = g.respTimeout ∧ (f g).probeInterval = g.probeInterval) :
    (s.updSeg x f).fieldView = s.fieldView := by
  simp only [fieldView, FieldView.mk.injEq, updSeg_ntu, updSeg_mga, updSeg_entry, true_and, and_true]
  refine ⟨funext fun n => by simp, funext fun y => ?_⟩
  by_cases hy : y = x <;> simp [hy, h]

@[simp] theorem updAgent_fieldView (f : Agent → Agent) (h : ∀ m, (f m).absenceThreshold = m.absenceThreshold) :
    (s.updAgent f).fieldView = s.fieldView := by
  simp only [fieldView, FieldView.mk.injEq]
  exact ⟨rfl, rfl, rfl, rfl, h _⟩

@[simp] theorem updNotices_fieldView (f : NoticeUnit → NoticeUnit)
    (h : ∀ n, (f n).repeatInterval = n.repeatInterval) : (s.updNotices f).fieldView = s.fieldView := by
  simp only [fieldView, FieldView.mk.injEq]
  exact ⟨rfl, rfl, rfl, h _, rfl⟩

end State

/-! ## The repeat interval and the timing of a segment, which few operations write -/

namespace NoticeUnit

variable (n : NoticeUnit)

@[simp] theorem clearOffer_repeatInterval : n.clearOffer.repeatInterval = n.repeatInterval := by
  unfold clearOffer; split <;> rfl
@[simp] theorem arbitrate_repeatInterval : n.arbitrate.repeatInterval = n.repeatInterval := by
  unfold arbitrate; (repeat' split) <;> simp [offerNode]
@[simp] theorem raise_repeatInterval (k : NodeNo) (d : Half) : (n.raise k d).repeatInterval = n.repeatInterval := by
  simp [raise, gather, updNode]
@[simp] theorem forceSet_repeatInterval (k : NodeNo) : (n.forceSet k).repeatInterval = n.repeatInterval := by
  simp [forceSet]
@[simp] theorem forceClear_repeatInterval (k : NodeNo) : (n.forceClear k).repeatInterval = n.repeatInterval := by
  unfold forceClear; dsimp only; split <;> simp [updNode]
@[simp] theorem writeNode_repeatInterval (k : NodeNo) (l : Level) (b : Bool) :
    (n.writeNode k l b).repeatInterval = n.repeatInterval := by
  simp [writeNode, updNode]
@[simp] theorem ack_repeatInterval (k : NodeNo) : (n.ack k).repeatInterval = n.repeatInterval := by
  simp [ack, updNode]
@[simp] theorem done_repeatInterval (b : Level) : (n.done b).repeatInterval = n.repeatInterval := by simp [done]
@[simp] theorem setBaseFloor_repeatInterval (b : Level) : (n.setBaseFloor b).repeatInterval = n.repeatInterval := by
  simp [setBaseFloor]
@[simp] theorem restartTraffic_repeatInterval (b : Level) :
    (n.restartTraffic b).repeatInterval = n.repeatInterval := by
  simp [restartTraffic]
@[simp] theorem frameEnded_repeatInterval (l : NoticeLatch) : (n.frameEnded l).repeatInterval = n.repeatInterval := by
  unfold frameEnded; (repeat' split) <;> rfl

end NoticeUnit

namespace Segment

variable (g : Segment)

@[simp] theorem failAttempt_respTimeout (f : AttemptFailure) : (g.failAttempt f).respTimeout = g.respTimeout := by
  unfold failAttempt; split <;> rfl
@[simp] theorem failAttempt_probeInterval (f : AttemptFailure) :
    (g.failAttempt f).probeInterval = g.probeInterval := by
  unfold failAttempt; split <;> rfl
@[simp] theorem byte_respTimeout (b : Byte) : (g.byte b).respTimeout = g.respTimeout := by
  unfold byte; split <;> rfl
@[simp] theorem byte_probeInterval (b : Byte) : (g.byte b).probeInterval = g.probeInterval := by
  unfold byte; split <;> rfl

end Segment

namespace State

variable (s : State)

/-! ## Changes of other fields: the operations made of them -/

@[simp] theorem raise_fieldView (k : NodeNo) (d : Half) : (s.raise k d).fieldView = s.fieldView := by simp [raise]
@[simp] theorem respond_fieldView (t : Tag) (st : Status) (rs : Reason) (src : PayloadSource) :
    (s.respond t st rs src).fieldView = s.fieldView := by simp [respond]
@[simp] theorem endWait_fieldView (t : Tag) (st : Status) (rs : Reason) :
    (s.endWait t st rs).fieldView = s.fieldView := by simp [endWait]
@[simp] theorem beginWait_fieldView (t : Tag) (c : WaitingCommand) :
    (s.beginWait t c).fieldView = s.fieldView := by simp [beginWait]
@[simp] theorem occupy_fieldView (q : Request) (o : Origin) (e : Option EntryNo) :
    (s.occupy q o e).fieldView = s.fieldView := by simp [occupy]
@[simp] theorem occupyMgmt_fieldView (q : Request) (k : Fin 4) :
    (s.occupyMgmt q k).fieldView = s.fieldView := by simp [occupyMgmt]
@[simp] theorem countFrame_fieldView : s.countFrame.fieldView = s.fieldView := by simp [countFrame]
@[simp] theorem dropClaim_fieldView (r : RecordNo) : (s.dropClaim r).fieldView = s.fieldView := by
  unfold dropClaim; split <;> simp
@[simp] theorem completeQuiesce_fieldView (e : EntryNo) : (s.completeQuiesce e).fieldView = s.fieldView := by
  unfold completeQuiesce; split <;> simp
@[simp] theorem leaveEntry_fieldView (t : Tag) (o : Option Status) : (s.leaveEntry t o).fieldView = s.fieldView := by
  unfold leaveEntry; dsimp only; (repeat' split) <;> simp [Entry.depart]
@[simp] theorem turnAway_fieldView (t : Tag) (st : Status) : (s.turnAway t st).fieldView = s.fieldView := by
  unfold turnAway releaseClaim; split <;> simp
@[simp] theorem settleClaim_fieldView (t : Tag) (st : Status) : (s.settleClaim t st).fieldView = s.fieldView := by
  unfold settleClaim fill; (repeat' split) <;> simp
@[simp] theorem handOn_fieldView (t : Tag) (o : Status × Reason × PayloadSource) :
    (s.handOn t o).fieldView = s.fieldView := by simp [handOn]
@[simp] theorem storeResponse_fieldView (t : Tag) (p : List Byte) :
    (s.storeResponse t p).fieldView = s.fieldView := by
  unfold storeResponse; split <;> simp
@[simp] theorem mirrorQueued_fieldView (r : RecordNo) (q : Request) :
    (s.mirrorQueued r q).fieldView = s.fieldView := by
  unfold mirrorQueued takeClaim; (repeat' split) <;> simp
@[simp] theorem onAccount_fieldView (q : Request) (e : Option EntryNo) :
    (s.onAccount q e).fieldView = s.fieldView := by
  unfold onAccount attach; (repeat' split) <;> simp
@[simp] theorem judgeFreshness_fieldView (r : RecordNo) : (s.judgeFreshness r).fieldView = s.fieldView := by
  unfold judgeFreshness; split <;> simp
@[simp] theorem answerBytes_fieldView (t : Tag) (r : RecordNo) (a n : Nat) :
    (s.answerBytes t r a n).fieldView = s.fieldView := by
  unfold answerBytes; split <;> simp
@[simp] theorem overtake_fieldView (t : Tag) (c : CommandObject) : (s.overtake t c).fieldView = s.fieldView := by
  simp [overtake]
@[simp] theorem refuse_fieldView (q : Request) (st : Status) (rs : Reason) :
    (s.refuse q st rs).fieldView = s.fieldView := by simp [refuse]
@[simp] theorem capture_fieldView (q : Request) (v : List Byte) : (s.capture q v).fieldView = s.fieldView := by
  unfold capture; dsimp only; split <;> simp
@[simp] theorem freeSlot_fieldView (t : Tag) : (s.freeSlot t).fieldView = s.fieldView := by
  unfold freeSlot unpin; split <;> simp

/-! ## The starts of frames and the dispatch -/

@[simp] theorem start_fieldView : s.start.fieldView = s.fieldView := by
  unfold start arbiter startNotice startResponse; (repeat' split) <;> simp
@[simp] theorem beginTransaction_fieldView (x : Seg) (t : Tag) :
    (s.beginTransaction x t).fieldView = s.fieldView := by
  simp [beginTransaction, Segment.send, Segment.count]
@[simp] theorem beginProbe_fieldView (x : Seg) (i : StationNo) : (s.beginProbe x i).fieldView = s.fieldView := by
  simp [beginProbe, Segment.send]

@[simp] theorem takeHead_fieldView (x : Seg) (q : List Tag) : (State.takeHead x q s).fieldView = s.fieldView := by
  induction q generalizing s with
  | nil => simp [State.takeHead]
  | cons t q ih => simp only [State.takeHead]; split <;> simp [ih]

@[simp] theorem dispatch_fieldView (x : Seg) : (s.dispatch x).fieldView = s.fieldView := by
  unfold dispatch; dsimp only; (repeat' split) <;> simp

@[simp] theorem engineRests_fieldView (x : Seg) : (s.engineRests x).fieldView = s.fieldView := by
  unfold engineRests; dsimp only; (repeat' split) <;> simp [Segment.rest]

@[simp] theorem answerDown_fieldView (q : List Tag) : (State.answerDown q s).fieldView = s.fieldView := by
  induction q generalizing s with
  | nil => rfl
  | cons t q ih => simp [State.answerDown, ih]

/-! ## The forward path and the local answers -/

@[simp] theorem refuseForward_fieldView (q : Request) (e : Option EntryNo) (st : Status) (rs : Reason) :
    (s.refuseForward q e st rs).fieldView = s.fieldView := by simp [refuseForward]
@[simp] theorem enqueue_fieldView (q : Request) (e : Option EntryNo) (x : Seg) (k : Fin 24) :
    (s.enqueue q e x k).fieldView = s.fieldView := by simp [enqueue]
@[simp] theorem forward_fieldView (q : Request) (e : Option EntryNo) : (s.forward q e).fieldView = s.fieldView := by
  unfold forward; (repeat' split) <;> simp
@[simp] theorem mirrorAnswer_fieldView (q : Request) (e : EntryNo) (r : RecordNo) :
    (s.mirrorAnswer q e r).fieldView = s.fieldView := by
  unfold mirrorAnswer; dsimp only; (repeat' split) <;> simp [occupyLocal]
@[simp] theorem fixedAnswer_fieldView (q : Request) (r : RecordNo) : (s.fixedAnswer q r).fieldView = s.fieldView := by
  unfold fixedAnswer; split <;> simp
@[simp] theorem streamAnswer_fieldView (q : Request) (r : RecordNo) :
    (s.streamAnswer q r).fieldView = s.fieldView := by
  unfold streamAnswer chunkAnswer; dsimp only; (repeat' split) <;> simp
@[simp] theorem act_fieldView (q : Request) (e : EntryNo) : (s.act q e).fieldView = s.fieldView := by
  unfold act; (repeat' split) <;> simp [occupyLocal]
@[simp] theorem miss_fieldView (q : Request) : (s.miss q).fieldView = s.fieldView := by
  unfold miss; dsimp only; split <;> simp
@[simp] theorem clash_fieldView (q : Request) : (s.clash q).fieldView = s.fieldView := by
  unfold clash; dsimp only; split <;> simp

end State
end Sys2Proof.Machine

/-! # PROOFS. Every step keeps the phase law and the presence law (O56). -/

namespace Sys2Proof.Machine

/-! ## The hit phase (R8, R16) -/

theorem Entry.countHit_phaseInRange {e : Entry} (h : e.phaseInRange) : e.countHit.phaseInRange := by
  obtain ⟨hz, hb⟩ := h
  by_cases hi : e.interval = 0
  · simp only [phaseInRange, countHit, hi, if_true]
    exact ⟨fun _ => hz hi, fun hn => absurd rfl hn⟩
  · have hlt := hb hi
    by_cases hc : e.phase + 1 = e.interval
    · simp only [phaseInRange, countHit, hi, hc, if_true, if_false]
      exact ⟨fun _ => trivial, fun _ => by bv_omega⟩
    · simp only [phaseInRange, countHit, hi, hc, if_false]
      exact ⟨fun h0 => h0.elim, fun _ => by bv_omega⟩

/-- An entry write leaves the kept fields at 0 (R16). -/
theorem entryOf_kept {p : List Byte} {e : Entry} (h : entryOf p = some e) :
    e.hits = 0 ∧ e.phase = 0 ∧ e.inFlight = 0 ∧ e.holder = none := by
  unfold entryOf at h
  dsimp only at h
  split at h
  · cases h
  · simp only [Option.bind_eq_bind, Option.bind_eq_some_iff, Option.some.injEq] at h
    obtain ⟨_, _, _, _, _, _, _, _, _, _, rfl⟩ := h
    exact ⟨rfl, rfl, rfl, rfl⟩

theorem Entry.phaseInRange_of_zero {e : Entry} (h : e.phase = 0) : e.phaseInRange := by
  refine ⟨fun _ => h, fun hn => ?_⟩
  rw [h]
  bv_omega

/-! ## The failure count (R104, R105) -/

theorem StationRecord.succeed_countsAgree {r : StationRecord} (h : r.countsAgree) : r.succeed.countsAgree := by
  unfold succeed
  split
  · exact h
  · exact ⟨fun _ => rfl, fun hs => by cases hs⟩

theorem raisedFailures_ne_zero (c : Fin 16) : raisedFailures c ≠ 0 := by revert c; decide

theorem StationRecord.fail_countsAgree (r : StationRecord) (threshold : Fin 16) :
    (r.fail threshold).countsAgree := by
  unfold fail
  dsimp only
  split
  · next ha => exact ⟨fun h => by simp [ha] at h, fun h => by simp [ha] at h⟩
  · split
    · exact ⟨fun h => by simp at h, fun _ => raisedFailures_ne_zero _⟩
    · exact ⟨fun h => by simp at h, fun h => by simp at h⟩

namespace State

/-! ## The operations that write the fields of the laws -/

/-- A change of one entry that keeps its hit phase in range. -/
theorem updEntry_keeps {s : State} {e : EntryNo} {f : Entry → Entry}
    (h : (s.entry e).phaseInRange → (f (s.entry e)).phaseInRange) : s.KeepsFields (s.updEntry e f) := by
  refine ⟨fun hs => (phaseLaw_iff _).2 fun n => ?_,
    fun ⟨hst, hseg, hrep, hthr⟩ => ⟨hst, fun x => ?_, hrep, hthr⟩⟩
  · rw [phaseLaw_iff] at hs
    rw [updEntry_entry]
    by_cases hn : n = e
    · subst hn
      rw [if_pos rfl]
      exact h (hs n)
    · rw [if_neg hn]
      exact hs n
  · rw [updEntry_seg]
    exact hseg x

/-- A change of one station record that keeps its failure count in agreement with its presence. -/
theorem updStation_keeps {s : State} {i : StationNo} {f : StationRecord → StationRecord}
    (h : (s.station i).countsAgree → (f (s.station i)).countsAgree) : s.KeepsFields (s.updStation i f) := by
  refine ⟨fun hs => hs, fun hs => ?_⟩
  obtain ⟨hst, hseg, hrep, hthr⟩ := (presenceLaw_iff s).1 hs
  refine (presenceLaw_iff _).2 ⟨fun n => ?_, fun x => ?_, hrep, hthr⟩
  · rw [updStation_station]
    by_cases hn : n = i
    · subst hn
      rw [if_pos rfl]
      exact h (hst n)
    · rw [if_neg hn]
      exact hst n
  · rw [updStation_seg]
    exact hseg x

/-- A change of one segment that leaves its timeout and its probe interval above 0. -/
theorem updSeg_keeps {s : State} {x : Seg} {f : Segment → Segment}
    (h : (f (s.seg x)).respTimeout ≠ 0 ∧ (f (s.seg x)).probeInterval ≠ 0) : s.KeepsFields (s.updSeg x f) := by
  refine ⟨fun hs e => ?_, fun ⟨hst, hseg, hrep, hthr⟩ => ⟨fun n => ?_, fun y => ?_, ?_, ?_⟩⟩
  · rw [updSeg_entry]
    exact hs e
  · rw [updSeg_station]
    exact hst n
  · rw [updSeg_seg]
    by_cases hy : y = x
    · subst hy
      rw [if_pos rfl]
      exact h
    · rw [if_neg hy]
      exact hseg y
  · rwa [updSeg_ntu]
  · rwa [updSeg_mga]

/-- A change of the notice unit that leaves the repeat interval above 0. -/
theorem updNotices_keeps {s : State} {f : NoticeUnit → NoticeUnit} (h : (f s.ntu).repeatInterval ≠ 0) :
    s.KeepsFields (s.updNotices f) := by
  refine ⟨fun hs => hs, fun ⟨hst, hseg, _, hthr⟩ => ⟨hst, fun x => ?_, h, hthr⟩⟩
  rw [updNotices_seg]
  exact hseg x

/-- A change of the agent that leaves the absence threshold above 0. -/
theorem updAgent_keeps {s : State} {f : Agent → Agent} (h : (f s.mga).absenceThreshold ≠ 0) :
    s.KeepsFields (s.updAgent f) := by
  refine ⟨fun hs => hs, fun ⟨hst, hseg, hrep, _⟩ => ⟨hst, fun x => ?_, hrep, h⟩⟩
  rw [updAgent_seg]
  exact hseg x

variable (s : State)

theorem countHit_keeps (e : EntryNo) : s.KeepsFields (s.countHit e) := by
  have h : s.KeepsFields (s.updEntry e Entry.countHit) := updEntry_keeps Entry.countHit_phaseInRange
  unfold countHit
  split
  · exact h.then_view (by simp)
  · exact h

theorem replaceEntry_keeps (e : EntryNo) {new : Entry} (h : new.phase = 0) :
    s.KeepsFields (s.replaceEntry e new) :=
  .after_view (t := (s.detachAll e).completeQuiesce e) (by simp)
    (updEntry_keeps fun _ => Entry.phaseInRange_of_zero h)

theorem requestSuccess_keeps (st : Station) : s.KeepsFields (s.requestSuccess st) := by
  unfold requestSuccess
  split
  · exact .refl s
  · exact updStation_keeps StationRecord.succeed_countsAgree

theorem requestFailure_keeps (x : Seg) (st : Station) : s.KeepsFields (s.requestFailure x st) := by
  unfold requestFailure
  split
  · exact .refl s
  · next i _ =>
    have h : s.KeepsFields (s.updStation i (fun rc => rc.fail s.mga.absenceThreshold)) :=
      updStation_keeps fun _ => StationRecord.fail_countsAgree _ _
    dsimp only
    split
    · exact h.then_view (by simp)
    · exact h

theorem probeSuccess_keeps (x : Seg) (i : StationNo) : s.KeepsFields (s.probeSuccess x i) := by
  have h : s.KeepsFields (s.updStation i (fun rc => { rc with presence := .present, failures := 0 })) :=
    updStation_keeps fun _ => ⟨fun _ => rfl, fun hs => by cases hs⟩
  exact h.then_view (by simp [probeSuccess])

/-! ## Power-on and the restarts (R101, R163 to R166) -/

theorem reset_phaseLaw : State.reset.phaseLaw := fun e => by simp

theorem reset_presenceLaw : State.reset.presenceLaw :=
  ⟨fun i => by simp, fun x => by simp, by decide, by decide⟩

/-- A state with the power-on values of the laws' fields meets the laws. -/
theorem keeps_of_reset_view {t : State} (h : t.fieldView = State.reset.fieldView) : s.KeepsFields t :=
  ⟨fun _ => phaseLaw_of_view h reset_phaseLaw, fun _ => presenceLaw_of_view h reset_presenceLaw⟩

theorem performFull_keeps : s.KeepsFields s.performFull := by
  apply keeps_of_reset_view
  simp only [fieldView, FieldView.mk.injEq]
  refine ⟨rfl, rfl, funext fun x => ?_, rfl, rfl⟩
  cases x <;> rfl

theorem performTraffic_fieldView : s.performTraffic.fieldView = s.fieldView := by
  simp only [fieldView, FieldView.mk.injEq]
  refine ⟨funext fun e => ?_, rfl, funext fun x => ?_, ?_, rfl⟩
  · have he : s.performTraffic.entry e = { s.entry e with inFlight := 0, holder := none } := mapAll_get _ _ e
    rw [he]
  · cases x <;> rfl
  · simp [performTraffic]

theorem performRestart_keeps (t : Tag) : s.KeepsFields (s.performRestart t) := by
  unfold performRestart
  repeat' split
  · exact .refl s
  · exact .of_view s.performTraffic_fieldView
  · exact s.performFull_keeps
  · exact .refl s

end State

/-! ## The agent's verdicts -/

/-- Whatever state a verdict gives, it keeps the laws' fields in range. -/
def Verdict.KeepsFields (s : State) : Verdict → Prop
  | .done t => s.KeepsFields t
  | .waits t => s.KeepsFields t
  | .refused _ _ => True

open State

variable (s : State)

theorem writeEntry_keeps (e : EntryNo) (p : List Byte) : (writeEntry s e p).KeepsFields s := by
  unfold writeEntry
  split
  · trivial
  · next new hnew =>
    split
    · trivial
    · exact s.replaceEntry_keeps e (entryOf_kept hnew).2.1

theorem writeDescriptor_keeps (n : RecordNo) (p : List Byte) : (writeDescriptor s n p).KeepsFields s := by
  unfold writeDescriptor
  repeat' split
  · trivial
  · trivial
  · trivial
  · trivial
  · trivial
  · exact KeepsFields.of_view (by simp)

theorem writeRecordData_keeps (n : RecordNo) (position : Nat) (p : List Byte) :
    (writeRecordData s n position p).KeepsFields s := by
  unfold writeRecordData
  repeat' split
  · trivial
  · trivial
  · trivial
  · trivial
  · refine KeepsFields.of_view ?_
    unfold State.dataWritten
    (repeat' split) <;> simp

theorem writeStation_keeps (i : StationNo) (p : List Byte) : (writeStation s i p).KeepsFields s := by
  unfold writeStation
  split
  · trivial
  · exact State.updStation_keeps fun _ => ⟨fun _ => rfl, fun h => by cases h⟩

theorem writeSegmentConfig_keeps (x : Seg) (p : List Byte) : (writeSegmentConfig s x p).KeepsFields s := by
  unfold writeSegmentConfig
  dsimp only
  split
  · trivial
  · split
    · trivial
    · next h => exact State.updSeg_keeps (not_or.mp h)

theorem writeNoticeConfig_keeps (p : List Byte) : (writeNoticeConfig s p).KeepsFields s := by
  unfold writeNoticeConfig
  split
  · trivial
  · next h => exact State.updNotices_keeps h

theorem writeGeneral_keeps (p : List Byte) : (writeGeneral s p).KeepsFields s := by
  unfold writeGeneral
  split
  · split
    · trivial
    · next h =>
      refine KeepsFields.then_view ?_ (State.updNotices_fieldView _ _ fun n => by simp)
      exact State.updAgent_keeps h
  · trivial

theorem writeNode_keeps (k : NodeNo) (p : List Byte) : (writeNode s k p).KeepsFields s := by
  unfold writeNode
  split
  · exact KeepsFields.of_view (by simp)
  · trivial

theorem cmdEntryHold_keeps (t : Tag) (arg : Byte) : (cmdEntryHold s t arg).KeepsFields s := by
  unfold cmdEntryHold
  repeat' split
  · trivial
  · trivial
  · exact KeepsFields.of_view (by simp)
  · exact KeepsFields.of_view (by simp)

theorem cmdEntryRelease_keeps (arg : Byte) : (cmdEntryRelease s arg).KeepsFields s := by
  unfold cmdEntryRelease
  dsimp only
  repeat' split
  · trivial
  · exact KeepsFields.of_view (by simp)
  · exact KeepsFields.of_view (by simp)

theorem cmdEntryBar_keeps (arg : Byte) : (cmdEntryBar s arg).KeepsFields s := by
  unfold cmdEntryBar
  split
  · trivial
  · exact KeepsFields.of_view (by simp)

theorem cmdEntryUnbar_keeps (arg : Byte) : (cmdEntryUnbar s arg).KeepsFields s := by
  unfold cmdEntryUnbar
  split
  · trivial
  · exact KeepsFields.of_view (by simp)

theorem cmdStreamRewind_keeps (arg : Byte) : (cmdStreamRewind s arg).KeepsFields s := by
  unfold cmdStreamRewind
  repeat' split
  · trivial
  · exact KeepsFields.of_view (by simp)
  · trivial

theorem cmdMirrorInvalidate_keeps (arg : Byte) : (cmdMirrorInvalidate s arg).KeepsFields s := by
  unfold cmdMirrorInvalidate
  repeat' split
  · trivial
  · exact KeepsFields.of_view (by simp)
  · trivial

theorem cmdSegmentEnable_keeps (arg : Byte) : (cmdSegmentEnable s arg).KeepsFields s := by
  unfold cmdSegmentEnable
  dsimp only
  repeat' split
  · trivial
  · exact KeepsFields.of_view (by simp)
  · exact KeepsFields.of_view (by simp [Segment.enable])
  · exact KeepsFields.of_view (by simp [Segment.enable])
  · exact KeepsFields.of_view (by simp [Segment.enable])

theorem cmdSegmentDisable_keeps (t : Tag) (arg : Byte) : (cmdSegmentDisable s t arg).KeepsFields s := by
  unfold cmdSegmentDisable
  dsimp only
  repeat' split
  · trivial
  · exact KeepsFields.refl s
  · trivial
  · exact KeepsFields.of_view (by simp [State.beginDrain])
  · exact KeepsFields.of_view (by simp [State.beginDrain])
  · exact KeepsFields.of_view (by simp)

theorem cmdStationForget_keeps (arg : Byte) : (cmdStationForget s arg).KeepsFields s := by
  unfold cmdStationForget
  split
  · trivial
  · exact updStation_keeps fun _ => ⟨fun _ => rfl, fun h => by cases h⟩

theorem cmdNoticeAck_keeps (arg : Byte) : (cmdNoticeAck s arg).KeepsFields s := by
  unfold cmdNoticeAck
  repeat' split
  · trivial
  · exact KeepsFields.of_view (by simp)
  · trivial

theorem cmdNoticeDone_keeps : (cmdNoticeDone s).KeepsFields s := by
  unfold cmdNoticeDone
  split
  · trivial
  · exact KeepsFields.of_view (by simp)

theorem cmdNoticeForce_keeps (arg flags : Byte) : (cmdNoticeForce s arg flags).KeepsFields s := by
  unfold cmdNoticeForce
  repeat' split
  · trivial
  · trivial
  · exact KeepsFields.of_view (by simp)
  · exact KeepsFields.of_view (by simp)
  · exact KeepsFields.refl s

theorem cmdRestart_keeps (t : Tag) (arg : Byte) : (cmdRestart s t arg).KeepsFields s := by
  unfold cmdRestart
  split
  · trivial
  · exact KeepsFields.of_view (by simp)

theorem runCommand_keeps (t : Tag) (p : List Byte) (c : CommandObject) : (runCommand s t p c).KeepsFields s := by
  cases c
  case entryHold => exact cmdEntryHold_keeps s t _
  case entryRelease => exact cmdEntryRelease_keeps s _
  case entryBar => exact cmdEntryBar_keeps s _
  case entryUnbar => exact cmdEntryUnbar_keeps s _
  case streamRewind => exact cmdStreamRewind_keeps s _
  case mirrorInvalidate => exact cmdMirrorInvalidate_keeps s _
  case segmentEnable => exact cmdSegmentEnable_keeps s _
  case segmentDisable => exact cmdSegmentDisable_keeps s t _
  case stationForget => exact cmdStationForget_keeps s _
  case noticeAck => exact cmdNoticeAck_keeps s _
  case noticeDone => exact cmdNoticeDone_keeps s
  case noticeForce => exact cmdNoticeForce_keeps s _ _
  case countersClear => exact KeepsFields.of_view s.clearCounters_fieldView
  case restart => exact cmdRestart_keeps s t _

theorem ownerWrite_keeps (q : Request) (o : MgmtObject) : (ownerWrite s q o).KeepsFields s := by
  cases o
  case general => exact writeGeneral_keeps s _
  case segment x => exact writeSegmentConfig_keeps s x _
  case notice => exact writeNoticeConfig_keeps s _
  case command c => exact runCommand_keeps s _ _ c
  case entry n => exact writeEntry_keeps s n _
  case descriptor n => exact writeDescriptor_keeps s n _
  case recordData n => exact writeRecordData_keeps s n _ _
  case station i => exact writeStation_keeps s i _
  case node k => exact writeNode_keeps s k _
  case identity => trivial
  case counters => trivial
  case unknown => trivial

theorem mgmtWrite_keeps (q : Request) (o : MgmtObject) : (mgmtWrite s q o).KeepsFields s := by
  unfold mgmtWrite
  repeat' split
  · trivial
  · trivial
  · trivial
  · exact ownerWrite_keeps s q o

namespace State

theorem conclude_keeps (q : Request) (o : MgmtObject) {v : Verdict} (h : v.KeepsFields s) :
    s.KeepsFields (s.conclude q o v) := by
  cases v with
  | done t =>
    rw [conclude_done]
    exact h.then_view (capture_fieldView t q _)
  | waits t => exact h
  | refused st rs => exact KeepsFields.of_view (refuse_fieldView s q st rs)

theorem manage_keeps (q : Request) : s.KeepsFields (s.manage q) := by
  unfold manage mgmtRead
  repeat' split
  · exact KeepsFields.of_view (by simp)
  · exact KeepsFields.of_view (by simp)
  · exact KeepsFields.of_view (by simp)
  · exact KeepsFields.of_view (by simp)
  · exact KeepsFields.of_view (by simp)
  · exact KeepsFields.of_view (by simp)
  · exact KeepsFields.of_view (by simp)
  · exact s.conclude_keeps q _ (mgmtWrite_keeps s q _)

/-! ## Admission (R33) -/

theorem hit_keeps (q : Request) (e : EntryNo) : s.KeepsFields (s.hit q e) := by
  unfold hit
  split
  · exact (s.countHit_keeps e).then_view (by simp)
  · exact (s.countHit_keeps e).then_view (by simp)

theorem toAgent_keeps (q : Request) : s.KeepsFields (s.toAgent q) := by
  unfold toAgent
  split
  · exact KeepsFields.of_view (by simp)
  · exact KeepsFields.after_view (s.occupyMgmt_fieldView q _) (manage_keeps _ q)

theorem toStation_keeps (q : Request) : s.KeepsFields (s.toStation q) := by
  unfold toStation
  repeat' split
  · exact KeepsFields.of_view (by simp)
  · exact KeepsFields.of_view (by simp)
  · exact s.hit_keeps q _

theorem accept_keeps (q : Request) : s.KeepsFields (s.accept q) := by
  unfold accept
  repeat' split
  · exact KeepsFields.of_view (by simp)
  · exact KeepsFields.of_view (by simp)
  · exact s.toAgent_keeps q
  · exact s.toStation_keeps q

theorem judgeUpstream_keeps (r : Except Half Request) : s.KeepsFields (s.judgeUpstream r) := by
  cases r with
  | error d => exact KeepsFields.of_view (by simp [judgeUpstream, linkError])
  | ok q => exact KeepsFields.after_view s.countFrame_fieldView (accept_keeps _ q)

theorem upstreamFrameEnd_keeps : s.KeepsFields s.upstreamFrameEnd := by
  unfold upstreamFrameEnd
  split
  · exact KeepsFields.refl s
  · exact KeepsFields.of_view s.readyRx_fieldView
  · exact KeepsFields.after_view s.readyRx_fieldView (judgeUpstream_keeps _ _)

theorem receiveRequest_keeps (q : Request) : s.KeepsFields (s.receiveRequest q) := by
  unfold receiveRequest
  split
  · exact KeepsFields.of_view s.readyRx_fieldView
  · exact KeepsFields.after_view s.readyRx_fieldView (judgeUpstream_keeps _ _)
  · exact KeepsFields.after_view s.readyRx_fieldView (judgeUpstream_keeps _ _)

/-! ## The segments' events (R81 to R93) -/

theorem acceptResponse_keeps (x : Seg) (r : Response) : s.KeepsFields (s.acceptResponse x r) := by
  unfold acceptResponse
  split
  · exact KeepsFields.refl s
  · next t _ =>
    have h := requestSuccess_keeps ((s.updSeg x (fun g => { g with responseTimer := none })).storeResponse t r.payload)
      (s.slot t).station
    exact KeepsFields.after_view (by simp) (h.then_view (by simp [Segment.enterGap]))
  · next i _ => exact (s.probeSuccess_keeps x i).then_view (by simp [Segment.enterGap])

theorem judgeSegmentFrame_keeps (x : Seg) (f : Option Response) : s.KeepsFields (s.judgeSegmentFrame x f) := by
  unfold judgeSegmentFrame
  repeat' split
  · exact KeepsFields.refl s
  · exact KeepsFields.refl s
  · exact KeepsFields.of_view (by simp [Segment.stray, Segment.count])
  · exact KeepsFields.of_view (by simp [Segment.stray, Segment.count])
  · exact KeepsFields.of_view (by simp [Segment.corruptAttempt, Segment.count])
  · exact s.acceptResponse_keeps x _
  · exact KeepsFields.of_view (by simp [Segment.corruptAttempt, Segment.count])
  · exact KeepsFields.of_view (by simp [Segment.stray, Segment.count])

theorem segmentFrameRxEnd_keeps (x : Seg) : s.KeepsFields (s.segmentFrameRxEnd x) := by
  have h : (s.updSeg x (fun g => { g with rx := Receiver.idle })).fieldView = s.fieldView := by simp
  unfold segmentFrameRxEnd
  dsimp only
  repeat' split
  · exact KeepsFields.refl s
  · exact KeepsFields.of_view h
  · exact KeepsFields.of_view h
  · exact KeepsFields.after_view h (judgeSegmentFrame_keeps _ x _)

theorem segmentFrameTxEnd_keeps (x : Seg) : s.KeepsFields (s.segmentFrameTxEnd x) := by
  unfold segmentFrameTxEnd
  dsimp only
  repeat' split
  · exact KeepsFields.of_view (by simp [Segment.enterGap])
  · exact KeepsFields.of_view (by simp)
  · exact KeepsFields.of_view (by simp)
  · exact KeepsFields.refl s

theorem responseTimerExpiry_keeps (x : Seg) : s.KeepsFields (s.responseTimerExpiry x) := by
  unfold responseTimerExpiry
  split
  · exact KeepsFields.of_view (by simp [Segment.timeoutAttempt, Segment.count])
  · exact KeepsFields.refl s

theorem failOutcome_keeps (x : Seg) (t : Tag) (f : AttemptFailure) : s.KeepsFields (s.failOutcome x t f) := by
  unfold failOutcome
  have h := requestFailure_keeps (s.raise (nodeSegFail x) (stationDetail (s.slot t).station)) x (s.slot t).station
  exact KeepsFields.after_view (s.raise_fieldView _ _) (h.then_view (by simp))

theorem gapEnd_keeps (x : Seg) : s.KeepsFields (s.gapEnd x) := by
  unfold gapEnd
  repeat' split
  · exact KeepsFields.of_view (by simp [retry, Segment.send, Segment.count])
  · next t _ _ _ => exact (s.failOutcome_keeps x t _).then_view (engineRests_fieldView _ x)
  · exact KeepsFields.of_view (by simp)
  · exact KeepsFields.refl s

theorem probeTimerExpiry_keeps (x : Seg) : s.KeepsFields (s.probeTimerExpiry x) := by
  unfold probeTimerExpiry
  split
  · exact KeepsFields.of_view (by simp)
  · exact KeepsFields.refl s

/-! ## The upstream transmitter's events (R114 to R122) -/

theorem responseFrameEnd_keeps : s.KeepsFields s.responseFrameEnd := by
  unfold responseFrameEnd
  split
  · exact KeepsFields.after_view (by simp [countResponse]) (performRestart_keeps _ _)
  · exact KeepsFields.refl s

theorem clashFrameEnd_keeps : s.KeepsFields s.clashFrameEnd := by
  unfold clashFrameEnd
  split
  · exact KeepsFields.of_view (by simp [countResponse])
  · exact KeepsFields.refl s

theorem noticeFrameEnd_keeps : s.KeepsFields s.noticeFrameEnd := by
  unfold noticeFrameEnd
  split
  · exact KeepsFields.of_view (by simp)
  · exact KeepsFields.refl s

theorem spacingEnd_keeps : s.KeepsFields s.spacingEnd := by
  unfold spacingEnd
  split
  · exact KeepsFields.of_view (by simp)
  · exact KeepsFields.refl s

theorem repeatTimerExpiry_keeps : s.KeepsFields s.repeatTimerExpiry := by
  unfold repeatTimerExpiry
  split
  · exact KeepsFields.of_view (by simp)
  · exact KeepsFields.refl s

theorem byteArrival_keeps (b : Byte) (l : Line) : s.KeepsFields (s.byteArrival b l) := by
  cases l with
  | upstream => exact KeepsFields.of_view rfl
  | segment x => exact KeepsFields.of_view (updSeg_fieldView s x _ fun g => by simp)

theorem receiverIdleGap_keeps (l : Line) : s.KeepsFields (s.receiverIdleGap l) := by
  cases l with
  | upstream => exact s.upstreamFrameEnd_keeps
  | segment x => exact s.segmentFrameRxEnd_keeps x

end State

/-! ## Every event and every step -/

theorem quietEvent_keeps {f : State → State} {s t : State} (hf : s.KeepsFields (f s))
    (h : quietEvent f s = .next t) : s.KeepsFields t := by
  cases h
  split
  · exact KeepsFields.refl s
  · exact hf

theorem event_keeps {f : State → State} {s t : State} (hf : s.KeepsFields (f s)) (h : event f s = .next t) :
    s.KeepsFields t :=
  quietEvent_keeps (hf.then_view (f s).start_fieldView) h

theorem execResetAssert_keeps {w : PulseWidth} {s t : State} (h : execResetAssert w s = .next t) :
    s.KeepsFields t := by
  cases w with
  | full =>
    cases h
    exact s.keeps_of_reset_view rfl
  | short =>
    cases h
    split
    · exact s.keeps_of_reset_view rfl
    · exact KeepsFields.of_view rfl

/-- A row that is a management request does what the arrival of its frame does (log 1). -/
theorem exec_of_requestOfRow {i : Instr} {q : Request} (h : requestOfRow i = some q) (s : State) :
    exec i s = requestEvent q s := by
  cases i <;> cases h <;> rfl

theorem exec_keeps {i : Instr} {s t : State} (h : exec i s = .next t) : s.KeepsFields t := by
  cases hq : requestOfRow i with
  | some q =>
    rw [exec_of_requestOfRow hq] at h
    exact event_keeps (s.receiveRequest_keeps q) h
  | none =>
    cases i
    case upstreamFrameEnd => exact event_keeps s.upstreamFrameEnd_keeps h
    case dispatch x => exact event_keeps (f := fun s => s.dispatch x) (KeepsFields.of_view (s.dispatch_fieldView x)) h
    case segmentFrameTxEnd x => exact event_keeps (f := fun s => s.segmentFrameTxEnd x) (s.segmentFrameTxEnd_keeps x) h
    case segmentFrameRxEnd x => exact event_keeps (f := fun s => s.segmentFrameRxEnd x) (s.segmentFrameRxEnd_keeps x) h
    case responseTimerExpiry x => exact quietEvent_keeps (f := fun s => s.responseTimerExpiry x) (s.responseTimerExpiry_keeps x) h
    case gapEnd x => exact event_keeps (f := fun s => s.gapEnd x) (s.gapEnd_keeps x) h
    case probeTimerExpiry x => exact event_keeps (f := fun s => s.probeTimerExpiry x) (s.probeTimerExpiry_keeps x) h
    case mirrorAgeTick => exact quietEvent_keeps (KeepsFields.of_view s.mirrorAgeTick_fieldView) h
    case startOfTransmission => exact quietEvent_keeps (KeepsFields.of_view s.start_fieldView) h
    case responseFrameEnd => exact quietEvent_keeps s.responseFrameEnd_keeps h
    case clashFrameEnd => exact quietEvent_keeps s.clashFrameEnd_keeps h
    case noticeFrameEnd => exact quietEvent_keeps s.noticeFrameEnd_keeps h
    case spacingEnd => exact quietEvent_keeps s.spacingEnd_keeps h
    case repeatTimerExpiry => exact quietEvent_keeps s.repeatTimerExpiry_keeps h
    case resetAssert w => exact execResetAssert_keeps h
    case resetRelease =>
      cases h
      split
      · exact s.keeps_of_reset_view rfl
      · exact KeepsFields.refl s
    case powerUp =>
      cases h
      exact s.keeps_of_reset_view rfl
    case receiverIdleGap l => exact event_keeps (f := fun s => s.receiverIdleGap l) (s.receiverIdleGap_keeps l) h
    case byteArrival l b => exact quietEvent_keeps (f := fun s => s.byteArrival b l) (s.byteArrival_keeps b l) h
    all_goals cases hq

theorem step_keeps {s t : State} (h : step s = .next t) : s.KeepsFields t := by
  unfold step at h
  split at h
  · cases h
    exact KeepsFields.refl s
  · next c rest _ => exact KeepsFields.after_view (t := { s with pending := rest }) rfl (exec_keeps h)

/-- Settles O56: every operation either leaves the laws' fields alone or writes them in range. -/
theorem everyStepKeepsTheFieldLaws : Obligations.EveryStepKeepsTheFieldLaws := by
  unfold Obligations.EveryStepKeepsTheFieldLaws
  exact fun s t h => ⟨(step_keeps h).phase, (step_keeps h).presence⟩

end Sys2Proof.Machine

/-! # PROOFS. The lookup (O18). -/

namespace Sys2Proof.Machine

/-! ## The first match (R4, R5) -/

/-- A search of a table's indexes gives the lowest that passes. -/
theorem find?_indexes_eq_some {n : Nat} {p : Fin n → Bool} {i : Fin n} :
    (indexes n).find? p = some i ↔ p i = true ∧ ∀ j, j < i → p j = false := by
  rw [indexes, List.find?_eq_some_iff_getElem]
  refine and_congr_right fun _ => ⟨?_, fun h => ?_⟩
  · rintro ⟨k, hk, rfl, hlow⟩ j hj
    simpa using hlow j.val (by simpa [Fin.lt_def] using hj)
  · exact ⟨i.val, by simp, by simp, fun j hj => by simpa using h ⟨j, by omega⟩ hj⟩

/-- A search of a table's indexes fails when none passes. -/
theorem find?_indexes_eq_none {n : Nat} {p : Fin n → Bool} :
    (indexes n).find? p = none ↔ ∀ i, p i = false := by
  simp [indexes]

/-- The station key of R4: ANY for stations 0 to 126, or the station itself. -/
theorem StationKey.has_iff (k : StationKey) (st : Station) :
    k.has st = true ↔ k = .any ∧ st.val ≤ 126 ∨ ∃ n, k = .exact n ∧ n.val = st.val := by
  cases k with
  | any => simp [StationKey.has]; omega
  | exact n => simp [StationKey.has]

/-- The function set of R4. -/
theorem FunctionSet.has_iff (f : FunctionSet) (code : Byte) :
    f.has code = true ↔ code = 1 ∧ f.read = true ∨ code = 2 ∧ f.write = true
      ∨ code = 3 ∧ f.exchange = true ∨ code = 4 ∧ f.ping = true := by
  simp only [FunctionSet.has, Bool.or_eq_true, Bool.and_eq_true, decide_eq_true_eq, or_assoc]
  rfl

/-- The three conditions of R4 on a valid entry. -/
theorem Entry.matchesRequest_iff (e : Entry) (q : Request) :
    e.matchesRequest q = true ↔ e.valid = true ∧ e.key.has q.station = true ∧ e.functions.has q.function = true
      ∧ e.objectLow.toNat ≤ q.object.toNat ∧ q.object.toNat ≤ e.objectHigh.toNat := by
  simp [Entry.matchesRequest, and_assoc]

/-- Settles O18: the lookup is a search of the indexes for `Entry.matchesRequest`. -/
theorem lookupIsFirstMatch : Obligations.LookupIsFirstMatch := by
  unfold Obligations.LookupIsFirstMatch
  intro s q m hm
  have hmatch : ∀ e, (s.entry e).matchesRequest q = true ↔ m e := fun e => by
    rw [hm, Entry.matchesRequest_iff, StationKey.has_iff, FunctionSet.has_iff]
  have hmiss : ∀ e, (s.entry e).matchesRequest q = false ↔ ¬ m e := fun e => by
    rw [← hmatch, Bool.not_eq_true]
  refine ⟨fun e => ?_, ?_⟩
  · rw [State.lookup, find?_indexes_eq_some]
    simp only [hmatch, hmiss]
  · rw [State.lookup, find?_indexes_eq_none]
    simp only [hmiss]

end Sys2Proof.Machine

/-! # PROOFS. Hits and the answers of the flags (O19). -/

namespace Sys2Proof.Machine

/-! ## Hits and the flags' answers (R7 to R9) -/

/-- A hit's entry: the hit count saturates, and the hit phase goes round the interval (R7, R8). -/
theorem Entry.countHit_eq (e : Entry) :
    e.countHit = { e with
      hits := if e.hits = 0xFFFFFFFF then 0xFFFFFFFF else e.hits + 1
      phase := if e.interval = 0 then e.phase else if e.phase + 1 = e.interval then 0 else e.phase + 1 } := by
  have hsat : satInc e.hits = if e.hits = 0xFFFFFFFF then 0xFFFFFFFF else e.hits + 1 := by
    have hall : (BitVec.allOnes 32 : Long) = 0xFFFFFFFF := rfl
    rw [satInc, hall]
    split
    · next h => exact h
    · rfl
  rw [Entry.countHit, hsat]

namespace State

variable (s : State)

theorem countHit_entry (e n : EntryNo) :
    (s.countHit e).entry n = if n = e then (s.entry n).countHit else s.entry n := by
  unfold countHit
  split <;> simp

theorem countHit_ntu (e : EntryNo) :
    (s.countHit e).ntu = if (s.entry e).interval ≠ 0 ∧ (s.entry e).phase + 1 = (s.entry e).interval
      then s.ntu.raise nodeEntryHit (halfNat e) else s.ntu := by
  unfold countHit Entry.completesInterval
  by_cases h : (s.entry e).interval ≠ 0 ∧ (s.entry e).phase + 1 = (s.entry e).interval
  · rw [if_pos h, if_pos (by simpa using h)]
    simp
  · rw [if_neg h, if_neg (by simpa using h)]
    rfl

end State

/-- A received request whose lookup hits an entry. -/
theorem exec_of_hit {s : State} {q : Request} {e : EntryNo} (h : s.reachesLookup q) (hl : s.lookup q = some e) :
    exec .upstreamFrameEnd s = .next ((s.readyRx.countFrame.hit q e).start) := by
  obtain ⟨hrec, hadm, h127, hval⟩ := h
  have haccept := accept_lookup (s := s.readyRx.countFrame) hadm h127 hval
  rw [show s.readyRx.countFrame.lookup q = s.lookup q from rfl, hl] at haccept
  rw [show exec .upstreamFrameEnd s = _ from upstreamFrameEnd_of_receives hrec, haccept]

/-- A hit that a flag answers is counted and answered from a STEERED slot, and nothing else changes (R9). -/
theorem exec_of_gated_hit {s : State} {q : Request} {e : EntryNo} {st : Status} {rs : Reason}
    (h : s.reachesLookup q) (hl : s.lookup q = some e) (hg : (s.entry e).gate = some (st, rs)) :
    ∃ u, exec .upstreamFrameEnd s = .next u.start
      ∧ s.answers u q.tag ((occupiedSlot q .steered (some e)).answered st rs .none)
      ∧ u.entries = (s.countHit e).entries ∧ u.ntu = (s.countHit e).ntu
      ∧ u.rst = s.rst ∧ u.segA = s.segA ∧ u.segB = s.segB ∧ u.stations = s.stations ∧ u.mga = s.mga := by
  have hhit : s.readyRx.countFrame.hit q e
      = ((s.readyRx.countFrame.countHit e).occupy q .steered (some e)).respond q.tag st rs .none := by
    rw [State.hit, show (s.readyRx.countFrame.entry e).gate = _ from hg]
  refine ⟨_, by rw [exec_of_hit h hl, hhit], ⟨?_, ?_, fun v hv => ?_, ?_, ?_⟩, ?_, ?_, ?_, ?_, ?_, ?_, ?_⟩
  · simp [State.received]
  · simp [Slot.answered]
  · simp [hv]
  · simp [State.sameBuffers]
  · simp [State.returns]
  · simpa using countHit_countFrame_entries s e
  · simpa using countHit_countFrame_ntu s e
  · simp
  · simp
  · simp
  · simp
  · simp

/-- Settles O19: the count first, and of the flags BARRED before HOLD. -/
theorem hitsAreCountedThenGated : Obligations.HitsAreCountedThenGated := by
  unfold Obligations.HitsAreCountedThenGated
  refine ⟨fun s e => ⟨?_, fun n hn => ?_, s.countHit_ntu e⟩, fun s q e h hl => ⟨fun hb => ?_, fun hb hh => ?_⟩⟩
  · rw [s.countHit_entry, if_pos rfl, Entry.countHit_eq]
  · rw [s.countHit_entry, if_neg hn]
  · exact exec_of_gated_hit h hl (by simp [Entry.gate, hb])
  · exact exec_of_gated_hit h hl (by simp [Entry.gate, hb, hh])

end Sys2Proof.Machine

/-! # PROOFS. A slot that is turned away without a transaction (O31). -/

namespace Sys2Proof.Machine

/-! ## A slot that is turned away (R12, R21, R72) -/

namespace State

variable {s : State}

/-- The quiesce that a slot's departure ends is another slot's: that one is WAITING (R20). -/
theorem quiesced_ne_of_mayDepart {t : Tag} (h : s.mayDepart t) : ∀ w, s.quiesced t = some w → w ≠ t := by
  rintro w hw rfl
  exact h.1 (h.2.1 w hw)

/-- The departure from the entry leaves the claims as they are. -/
theorem claims_leaveEntry {t : Tag} {c : Option RecordNo} (h : s.mayDepart t) (hc : s.claims t c) :
    (s.leaveEntry t none).claims t c := by
  obtain ⟨hflag, hrec⟩ := hc
  obtain ⟨hslot, _, _, _⟩ := s.leaveEntry_effect (o := none) rfl (quiesced_ne_of_mayDepart h)
  refine ⟨?_, fun n => by rw [leaveEntry_record]; exact hrec n⟩
  rw [hslot, if_pos rfl, s.detached_slot h.2.2]
  exact hflag

/-- The claim that a slot holds is dropped from its record and from the slot (R72). -/
theorem releaseClaim_effect {t : Tag} {c : Option RecordNo} (hc : s.claims t c) :
    (∀ v, (s.releaseClaim t).slot v = if v = t then { s.slot t with fillClaim := false } else s.slot v)
      ∧ (∀ r, (s.releaseClaim t).record r
          = if c = some r then { s.record r with claim := none } else s.record r)
      ∧ (s.releaseClaim t).rst.store = s.rst.store := by
  rw [releaseClaim, claimedRecord_of_claims hc]
  cases c with
  | none =>
    have hflag : (s.slot t).fillClaim = false := hc.1
    refine ⟨fun v => ?_, fun r => by simp, rfl⟩
    by_cases hv : v = t
    · subst hv
      rw [if_pos rfl, ← hflag]
    · rw [if_neg hv]
  | some n =>
    have hclaim : (s.record n).claim = some t := (hc.2 n).2 rfl
    refine ⟨fun v => ?_, fun r => ?_, s.dropClaim_store n⟩
    · rw [dropClaim_slot, hclaim]
      by_cases hv : v = t
      · subst hv
        rw [if_pos rfl, if_pos rfl]
      · rw [if_neg hv, if_neg fun h => hv (Option.some.inj h).symm]
    · rw [dropClaim_record]
      simp only [Option.some.injEq, eq_comm]

/-- The slot that is turned away, once its entry and its claim are left. -/
theorem turnAway_effect {t : Tag} {c : Option RecordNo} (st : Status) (h : s.mayDepart t) (hc : s.claims t c) :
    s.departs (s.turnAway t st) t (fun _ => false) st .none .none
      ∧ (∀ r, (s.turnAway t st).record r = if c = some r then { s.record r with claim := none } else s.record r)
      ∧ (s.turnAway t st).rst.store = s.rst.store ∧ (s.turnAway t st).ntu = s.ntu := by
  obtain ⟨hslot, hrtp, hmga, hntu⟩ := s.leaveEntry_effect (o := none) rfl (quiesced_ne_of_mayDepart h)
  obtain ⟨hrslot, hrrec, hrstore⟩ := releaseClaim_effect (claims_leaveEntry h hc)
  have hself : (s.leaveEntry t none).slot t = { s.slot t with attached := false } := by
    rw [hslot, if_pos rfl, s.detached_slot h.2.2]
  refine ⟨⟨fun e => ?_, ?_, fun v hv => ?_, ?_, ?_⟩, fun r => ?_, ?_, ?_⟩
  · simp [turnAway, leaveEntry_entry]
  · simp [turnAway, hrslot, hself, Slot.answered]
  · simp [turnAway, hrslot, hslot, hv]
  · simp [turnAway, hrtp, returns]
  · simp [turnAway, hmga]
  · simp [turnAway, hrrec]
  · simpa [turnAway] using hrstore
  · simp only [turnAway, respond_ntu, releaseClaim_ntu, hntu]
    cases (s.slot t).attachedEntry <;> rfl

end State

/-- Settles O31: the departure from the entry, then the claim, then the answer. -/
theorem departureActsOnEntry : Obligations.DepartureActsOnEntry := by
  unfold Obligations.DepartureActsOnEntry
  rintro s u t c st hdep hc rfl
  obtain ⟨hdeparts, hrecord, hstore, hntu⟩ := State.turnAway_effect st hdep hc
  exact ⟨hdeparts, hrecord, hstore, by simp, by simp, by simp, hntu, by simp [State.sameBuffers], by simp,
    by simp [State.sameLink]⟩

end Sys2Proof.Machine

/-! # PROOFS. The commands on entries (O7, O8). -/

namespace Sys2Proof.Machine

/-! ## Commands on entries (R19 to R23) -/

/-- The slot that a request takes is not a WAITING one (R35). -/
theorem ne_tag_of_waiting {s : State} {t v : Tag} {k : Fin 4} (hs : s.reachesAgent t k)
    (hv : (s.slot v).state = .waiting) : v ≠ t := by
  rintro rfl
  obtain ⟨_, ⟨_, hfree⟩, _⟩ := hs
  rw [hfree] at hv
  cases hv

/-- A command that is done with a change of one entry is answered DONE and changes nothing else. -/
theorem entryCommand_done {s : State} {h : WriteHead} {c : CommandObject} {p : List Byte} {k : Fin 4} {e : EntryNo}
    {f : Entry → Entry} (hs : s.reachesAgent h.tag k) (hp : h.position = 0) (hl : p.length = c.argSize)
    (hu : runCommand (s.readyRx.countFrame.occupyMgmt (commandRequest h c p) k) h.tag p c
      = .done ((s.readyRx.countFrame.occupyMgmt (commandRequest h c p) k).updEntry e f)) :
    ∃ u, requestEvent (commandRequest h c p) s = .next u.start
      ∧ s.agentDone u (commandRequest h c p) k
      ∧ u.entry e = f (s.entry e) ∧ s.otherEntries u e ∧ s.sameButEntries u := by
  have htag : (commandRequest h c p).tag = h.tag := rfl
  refine ⟨_, requestEvent_command_done hs hp hl hu, ⟨?_, ?_, fun v hv => ?_, ?_, ?_⟩, ?_, fun n hn => ?_, ?_⟩
  · simp [State.received]
  · simp [htag, Slot.answered]
  · simp [show v ≠ h.tag from hv, htag]
  · simp [State.sameBuffers]
  · simp [State.returns, htag]
  · simp
  · simp [hn]
  · simp [State.sameButEntries, State.sameRest]

/-- A refused command is answered, raises MGMT_REFUSED and changes nothing else (R158). -/
theorem command_refused {s : State} {h : WriteHead} {c : CommandObject} {p : List Byte} {k : Fin 4}
    {st : Status} {rs : Reason} (hs : s.reachesAgent h.tag k) (hp : h.position = 0) (hl : p.length = c.argSize)
    (hu : runCommand (s.readyRx.countFrame.occupyMgmt (commandRequest h c p) k) h.tag p c = .refused st rs) :
    ∃ u, requestEvent (commandRequest h c p) s = .next u.start
      ∧ s.agentRefuses u (commandRequest h c p) k st rs :=
  ⟨_, requestEvent_command_refused hs hp hl hu, refuse_agentRefuses (q := commandRequest h c p) s⟩

/-! ### The verdicts of the four commands on a valid entry -/

section Verdicts

variable {s : State} {e : EntryNo}

theorem cmdEntryHold_done (t : Tag) (hv : (s.entry e).valid = true) (hh : (s.entry e).holder = none)
    (hz : (s.entry e).inFlight = 0) :
    cmdEntryHold s t (byteOf e) = .done (s.updEntry e (fun en => { en with hold := true })) := by
  simp [cmdEntryHold, entryArg_of_valid hv, hh, hz]

theorem cmdEntryHold_waits (t : Tag) (hv : (s.entry e).valid = true) (hh : (s.entry e).holder = none)
    (hz : 0 < (s.entry e).inFlight) :
    cmdEntryHold s t (byteOf e)
      = .waits ((s.updEntry e (fun en => { en with hold := true, holder := some t })).beginWait t (.entryHold e)) := by
  simp [cmdEntryHold, entryArg_of_valid hv, hh, hz.ne']

theorem cmdEntryHold_pending (t : Tag) (hv : (s.entry e).valid = true) (hh : (s.entry e).holder.isSome = true) :
    cmdEntryHold s t (byteOf e) = .refused .refused .pending := by
  simp [cmdEntryHold, entryArg_of_valid hv, hh]

theorem cmdEntryRelease_done (hv : (s.entry e).valid = true) (hh : (s.entry e).holder = none) :
    cmdEntryRelease s (byteOf e)
      = .done (s.updEntry e (fun en => { en with hold := false, holder := none })) := by
  simp [cmdEntryRelease, entryArg_of_valid hv, hh]

theorem cmdEntryRelease_overtakes {t : Tag} (hv : (s.entry e).valid = true) (hh : (s.entry e).holder = some t) :
    cmdEntryRelease s (byteOf e)
      = .done ((s.updEntry e (fun en => { en with hold := false, holder := none })).overtake t .entryHold) := by
  simp [cmdEntryRelease, entryArg_of_valid hv, hh]

theorem cmdEntryBar_done (hv : (s.entry e).valid = true) :
    cmdEntryBar s (byteOf e) = .done (s.updEntry e (fun en => { en with barred := true })) := by
  simp [cmdEntryBar, entryArg_of_valid hv]

theorem cmdEntryUnbar_done (hv : (s.entry e).valid = true) :
    cmdEntryUnbar s (byteOf e) = .done (s.updEntry e (fun en => { en with barred := false })) := by
  simp [cmdEntryUnbar, entryArg_of_valid hv]

end Verdicts

/-- Settles O7: the three verdicts of ENTRY_HOLD on a valid entry. -/
theorem entryHoldHoldsOrWaits : Obligations.EntryHoldHoldsOrWaits := by
  unfold Obligations.EntryHoldHoldsOrWaits
  refine fun s h k e hs hp hv => ⟨fun hh hz => ?_, fun hh hz => ?_, fun hh => ?_⟩
  · exact entryCommand_done (c := .entryHold) (p := [byteOf e]) hs hp rfl (cmdEntryHold_done h.tag hv hh hz)
  · have htag : (commandRequest h .entryHold [byteOf e]).tag = h.tag := rfl
    refine ⟨_, requestEvent_command_waits hs hp rfl (cmdEntryHold_waits h.tag hv hh hz), ?_, fun v hv => ?_, ?_, ?_,
      ?_, ?_, fun n hn => ?_, ?_, ?_, ?_, ?_, ?_, ?_⟩
    · simp [State.received]
    · simp [htag, hv]
    · simp [State.sameBuffers]
    · simp
    · simp [htag]
    · simp
    · simp [hn]
    · simp
    · simp
    · simp
    · simp
    · simp
    · simp
  · exact command_refused hs hp rfl (cmdEntryHold_pending h.tag hv hh)

/-- A release that overtakes a waiting hold: the hold is answered ahead of it (R22, R157). -/
theorem entryRelease_overtakes {s : State} {h : WriteHead} {k : Fin 4} {e : EntryNo} {t : Tag}
    (hs : s.reachesAgent h.tag k) (hp : h.position = 0) (hv : (s.entry e).valid = true)
    (hh : (s.entry e).holder = some t) (hw : (s.slot t).state = .waiting) :
    ∃ u, exec (.entryRelease h (byteOf e)) s = .next u.start
      ∧ s.received u ∧ s.sameBuffers u ∧ s.returns u [t, h.tag]
      ∧ u.slot h.tag = (mgmtSlot (commandRequest h .entryRelease [byteOf e]) k).answered .done .none .none
      ∧ u.slot t = (s.slot t).answered .refused .overtaken .none
      ∧ (∀ v, v ≠ h.tag → v ≠ t → u.slot v = s.slot v)
      ∧ u.entry e = { s.entry e with hold := false, holder := none } ∧ s.otherEntries u e
      ∧ u.mga = { s.mga with pendingRecords := s.mga.pendingRecords.filter (fun r => r.tag ≠ t) }
      ∧ u.ntu = s.ntu.raise nodeMgmtRefused 0x0040
      ∧ u.rst = s.rst ∧ u.segA = s.segA ∧ u.segB = s.segB ∧ u.stations = s.stations := by
  have htag : (commandRequest h .entryRelease [byteOf e]).tag = h.tag := rfl
  have hne : t ≠ h.tag := ne_tag_of_waiting hs hw
  have hslot : ∀ (b : State) (v : Tag), (b.overtake t .entryHold).slot v
      = if v = t then (b.slot v).answered .refused .overtaken .none else b.slot v := fun b v => by
    simp [State.overtake, Slot.answered]
  refine ⟨_, requestEvent_command_done hs hp rfl (cmdEntryRelease_overtakes hv hh), ?_, ?_, ?_, ?_, ?_,
    fun v hvt hvw => ?_, ?_, fun n hn => ?_, ?_, ?_, ?_, ?_, ?_, ?_⟩
  · simp [State.received]
  · simp [State.sameBuffers]
  · simp [State.returns, State.overtake]
  · simp [hslot, htag, hne.symm, Slot.answered]
  · simp [hslot, htag, hne]
  · simp [hslot, htag, hvt, hvw]
  · simp
  · simp [hn]
  · simp [State.overtake]
  · simp [State.overtake, CommandObject.number]
  · simp
  · simp
  · simp
  · simp

/-- Settles O8: the verdicts of the three commands on a valid entry. -/
theorem entryReleaseBarAndUnbarSetFlags : Obligations.EntryReleaseBarAndUnbarSetFlags := by
  unfold Obligations.EntryReleaseBarAndUnbarSetFlags
  refine fun s h k e hs hp hv => ⟨fun hh => ?_, fun t hh hw => entryRelease_overtakes hs hp hv hh hw, ?_, ?_⟩
  · obtain ⟨u, hexec, hdone, hentry, hrest⟩ := entryCommand_done (c := .entryRelease) (p := [byteOf e]) hs hp rfl
      (cmdEntryRelease_done hv hh)
    exact ⟨u, hexec, hdone, by rw [hentry, ← hh], hrest⟩
  · exact entryCommand_done (c := .entryBar) (p := [byteOf e]) hs hp rfl (cmdEntryBar_done hv)
  · exact entryCommand_done (c := .entryUnbar) (p := [byteOf e]) hs hp rfl (cmdEntryUnbar_done hv)

end Sys2Proof.Machine

/-! # PROOFS. Entry writes (O1). -/

namespace Sys2Proof.Machine

/-! ## Entry writes (R16, R18) -/

/-- A slot of an entry that is written, detached from it (R13, R16). -/
def Slot.detachedFrom (sl : Slot) (e : EntryNo) : Slot :=
  if sl.entry = some e then { sl with attached := false } else sl

namespace State

variable (s : State)

/-- The end of a pending quiesce: its slot is answered DONE and its pending command record removed (R18). -/
theorem completeQuiesce_effect (e : EntryNo) :
    (∀ v, (s.completeQuiesce e).slot v
        = if (s.entry e).holder = some v then (s.slot v).answered .done .none .none else s.slot v)
      ∧ (∀ n, (s.completeQuiesce e).entry n = if n = e then { s.entry n with holder := none } else s.entry n)
      ∧ (s.completeQuiesce e).rtp = { s.rtp with queue := s.rtp.queue ++ (s.entry e).holder.toList }
      ∧ (s.completeQuiesce e).mga = { s.mga with
          pendingRecords := s.mga.pendingRecords.filter (fun r => (s.entry e).holder ≠ some r.tag) } := by
  cases hh : (s.entry e).holder with
  | none =>
    rw [s.completeQuiesce_none hh]
    refine ⟨fun v => by simp, fun n => ?_, by simp, by simp⟩
    by_cases hn : n = e
    · subst hn
      rw [if_pos rfl, ← hh]
    · rw [if_neg hn]
  | some t =>
    rw [s.completeQuiesce_some hh]
    refine ⟨fun v => ?_, fun n => by simp, by simp, by simp [eq_comm]⟩
    simp [Slot.answered, eq_comm]

/-- What an accepted entry write does: the entry, its slots and its pending quiesce (R16, R18). -/
theorem replaceEntry_effect (e : EntryNo) (new : Entry) :
    (∀ v, (s.replaceEntry e new).slot v = if (s.entry e).holder = some v
        then ((s.slot v).detachedFrom e).answered .done .none .none else (s.slot v).detachedFrom e)
      ∧ (∀ n, (s.replaceEntry e new).entry n = if n = e then new else s.entry n)
      ∧ (s.replaceEntry e new).rtp = { s.rtp with queue := s.rtp.queue ++ (s.entry e).holder.toList }
      ∧ (s.replaceEntry e new).mga = { s.mga with
          pendingRecords := s.mga.pendingRecords.filter (fun r => (s.entry e).holder ≠ some r.tag) } := by
  obtain ⟨hslot, hentry, hrtp, hmga⟩ := (s.detachAll e).completeQuiesce_effect e
  refine ⟨fun v => ?_, fun n => ?_, hrtp, hmga⟩
  · simpa [replaceEntry, Slot.detachedFrom] using hslot v
  · by_cases hn : n = e
    · simp [replaceEntry, hn]
    · simp [replaceEntry, hn, hentry]

end State

/-- The verdict on an entry write whose bytes are in range and consistent (R3, R16). -/
theorem writeEntry_done {s : State} {n : EntryNo} {p : List Byte} {new : Entry} (hnew : entryOf p = some new)
    (hcons : new.valid = true → s.entryConsistent new = true) :
    writeEntry s n p = .done (s.replaceEntry n new) := by
  have hok : (new.valid && !s.entryConsistent new) = false := by
    cases hv : new.valid with
    | false => rfl
    | true => simp [hcons hv]
  simp [writeEntry, hnew, hok]

/-- The state that an accepted entry write leaves before its answer, by the state that the frame found: the
request's slot is taken, the entry's other slots are detached, and its quiesce ended. -/
theorem entryWrite_effect {s : State} {q : Request} {k : Fin 4} {n : EntryNo} (new : Entry)
    (hne : ∀ t, (s.entry n).holder = some t → t ≠ q.tag) :
    let u := (s.readyRx.countFrame.occupyMgmt q k).replaceEntry n new
    s.received u ∧ u.slot q.tag = mgmtSlot q k ∧ s.sameBuffers u
      ∧ (∀ v, v ≠ q.tag → u.slot v = if (s.entry n).holder = some v
          then ((s.slot v).detachedFrom n).answered .done .none .none else (s.slot v).detachedFrom n)
      ∧ u.entry n = new ∧ s.otherEntries u n ∧ s.returns u (s.entry n).holder.toList
      ∧ u.mga = { s.mga with
          pendingRecords := s.mga.pendingRecords.filter (fun r => (s.entry n).holder ≠ some r.tag) } := by
  obtain ⟨hslot, hentry, hrtp, hmga⟩ := (s.readyRx.countFrame.occupyMgmt q k).replaceEntry_effect n new
  have hholder : ((s.readyRx.countFrame.occupyMgmt q k).entry n).holder = (s.entry n).holder := by simp
  rw [hholder] at hrtp hmga
  simp only [hholder, State.occupyMgmt_slot] at hslot
  refine ⟨by simp [State.received, State.replaceEntry], ?_, by simp [State.sameBuffers, State.replaceEntry],
    fun v hv => ?_, ?_, fun m hm => ?_, ?_, ?_⟩
  · rw [hslot, if_neg fun ht => hne _ ht rfl, if_pos rfl]
    rfl
  · rw [hslot, if_neg hv]
    rfl
  · rw [hentry, if_pos rfl]
  · rw [hentry, if_neg hm]
    simp
  · rw [State.returns, hrtp]
    simp
  · rw [hmga]
    simp

/-- Settles O1: the write's effect on the entry, its slots and its quiesce, then the answer of the write. -/
theorem entryWriteReplacesEntry : Obligations.EntryWriteReplacesEntry := by
  unfold Obligations.EntryWriteReplacesEntry
  intro s h w n p k new hs hp hg hl hnew hcons hwait
  obtain ⟨hhits, hphase, hflight, hholder⟩ := entryOf_kept hnew
  have hne : ∀ t, (s.entry n).holder = some t → t ≠ (writeRequest h w (entryObject n) p).tag :=
    fun t ht => ne_tag_of_waiting hs (hwait t ht)
  obtain ⟨hrec, hself, hbuf, hother, hentry, hentries, hret, hmga⟩ := entryWrite_effect (k := k) new hne
  have hverdict := mgmtWrite_of_checks (s := s.readyRx.countFrame.occupyMgmt (writeRequest h w (entryObject n) p) k)
    (q := writeRequest h w (entryObject n) p) (o := .entry n) rfl (fun _ => rfl) (.inl hp)
    (fun m hm => by cases hm; exact hl)
  have hexec := requestEvent_write_done hs hg (by omega) (objectOf_entry n)
    (hverdict.trans (writeEntry_done hnew hcons))
  refine ⟨_, hexec, ?_, ?_, hhits, hphase, hflight, hholder, fun m hm => ?_, fun t ht hh => ?_, fun t ht => ?_, ?_, ?_,
    ?_, ?_, ?_, ?_, ?_⟩
  · rw [State.capture_entry]
    exact writeAnswered_capture hrec hself hbuf
  · rw [State.capture_entry, hentry]
  · rw [State.capture_entry, hentries m hm]
  · rw [State.capture_otherSlot _ ht, hother t ht, if_neg hh]
    rfl
  · rw [State.capture_otherSlot _ (hne t ht), hother t (hne t ht), if_pos ht]
    rfl
  · rw [State.returns, State.capture_rtp, hret]
    simp [writeRequest]
  · rw [State.capture_mga, hmga]
  · simp [State.replaceEntry]
  · simp [State.replaceEntry]
  · simp [State.replaceEntry]
  · simp [State.replaceEntry]
  · simp [State.replaceEntry]

end Sys2Proof.Machine

/-! # PROOFS. Commands with arguments out of range (O29). -/

namespace Sys2Proof.Machine

/-! ## Arguments out of range (R19, R177) -/

/-- A byte that gives an index is that index's byte. -/
theorem eq_byteOf_of_indexOf {n : Nat} {b : Byte} {i : Fin n} (h : indexOf n b = some i) : b = byteOf i := by
  unfold indexOf at h
  split at h
  · cases h
    simp [byteOf]
  · cases h

theorem indexOf_eq_none {n : Nat} {b : Byte} : indexOf n b = none ↔ n ≤ b.toNat := by
  unfold indexOf
  split <;> simp <;> omega

theorem segOf_eq_none {b : Byte} : segOf b = none ↔ b ≠ 1 ∧ b ≠ 2 := by
  unfold segOf
  split
  · next h => simp [h]
  · split
    · next h => simp [h]
    · next h1 h2 => exact ⟨fun _ => ⟨h1, h2⟩, fun _ => rfl⟩

theorem stationArg_eq_none {b : Byte} (h : b = 0 ∨ 126 < b.toNat) : stationArg b = none := by
  have hb : ¬ (1 ≤ b.toNat ∧ b.toNat ≤ 126) := by
    rcases h with rfl | h
    · decide
    · omega
  simp [stationArg, hb]

theorem scopeOf_eq_none {b : Byte} (h1 : b ≠ 1) (h2 : b ≠ 2) : scopeOf b = none := by
  rw [scopeOf, if_neg h1, if_neg h2]

/-- An argument that names no valid entry (R19). -/
theorem entryArg_eq_none {s : State} {a : Byte} (h : ∀ e, a = byteOf e.val → (s.entry e).valid = false) :
    s.entryArg a = none := by
  unfold State.entryArg
  cases hi : indexOf 96 a with
  | none => rfl
  | some e => simp [Option.filter, h e (eq_byteOf_of_indexOf hi)]

/-! ### The verdicts on them -/

section Verdicts

variable {s : State} {a : Byte}

theorem cmdEntryHold_badValue (t : Tag) (h : ∀ e, a = byteOf e.val → (s.entry e).valid = false) :
    cmdEntryHold s t a = .badValue := by simp [cmdEntryHold, entryArg_eq_none h]

theorem cmdEntryRelease_badValue (h : ∀ e, a = byteOf e.val → (s.entry e).valid = false) :
    cmdEntryRelease s a = .badValue := by simp [cmdEntryRelease, entryArg_eq_none h]

theorem cmdEntryBar_badValue (h : ∀ e, a = byteOf e.val → (s.entry e).valid = false) :
    cmdEntryBar s a = .badValue := by simp [cmdEntryBar, entryArg_eq_none h]

theorem cmdEntryUnbar_badValue (h : ∀ e, a = byteOf e.val → (s.entry e).valid = false) :
    cmdEntryUnbar s a = .badValue := by simp [cmdEntryUnbar, entryArg_eq_none h]

theorem cmdStreamRewind_badValue (h : ∀ r, a = byteOf r.val → (s.record r).kind ≠ .stream) :
    cmdStreamRewind s a = .badValue := by
  unfold cmdStreamRewind
  split
  · rfl
  · next r hr => rw [if_neg (h r (eq_byteOf_of_indexOf hr))]

theorem cmdMirrorInvalidate_badValue (h : ∀ r, a = byteOf r.val → (s.record r).kind ≠ .mirror) :
    cmdMirrorInvalidate s a = .badValue := by
  unfold cmdMirrorInvalidate
  split
  · rfl
  · next r hr => rw [if_neg (h r (eq_byteOf_of_indexOf hr))]

theorem cmdSegmentEnable_badValue (h : a ≠ 1 ∧ a ≠ 2) : cmdSegmentEnable s a = .badValue := by
  simp [cmdSegmentEnable, segOf_eq_none.mpr h]

theorem cmdSegmentDisable_badValue (t : Tag) (h : a ≠ 1 ∧ a ≠ 2) : cmdSegmentDisable s t a = .badValue := by
  simp [cmdSegmentDisable, segOf_eq_none.mpr h]

theorem cmdStationForget_badValue (h : a = 0 ∨ 126 < a.toNat) : cmdStationForget s a = .badValue := by
  simp [cmdStationForget, stationArg_eq_none h]

theorem cmdNoticeAck_badValue (h : 19 < a.toNat) : cmdNoticeAck s a = .badValue := by
  simp [cmdNoticeAck, indexOf_eq_none.mpr (show 20 ≤ a.toNat from h)]

theorem cmdNoticeForce_badValue {f : Byte} (h : 19 < a.toNat ∨ 3 < f.toNat) : cmdNoticeForce s a f = .badValue := by
  unfold cmdNoticeForce
  split
  · rfl
  · next k hk =>
    have hf : 3 < f.toNat := h.resolve_left fun ha => by
      rw [indexOf_eq_none.mpr ha] at hk
      cases hk
    rw [if_pos hf]

theorem cmdRestart_badValue (t : Tag) (h1 : a ≠ 1) (h2 : a ≠ 2) : cmdRestart s t a = .badValue := by
  simp [cmdRestart, scopeOf_eq_none h1 h2]

/-- A NOTICE_FORCE with neither flag or with both changes nothing (R142). -/
theorem cmdNoticeForce_nothing {f : Byte} (hn : a.toNat ≤ 19) (hf : f = 0 ∨ f = 3) : cmdNoticeForce s a f = .done s := by
  unfold cmdNoticeForce
  split
  · next h => exact absurd (indexOf_eq_none.mp h) (by omega)
  · rcases hf with rfl | rfl <;> rfl

end Verdicts

/-- A received command frame, with position 0 and an argument of its size, comes to its command's verdict (R151,
R156). -/
theorem exec_of_command {s : State} {q : Request} {k : Fin 4} {c : CommandObject} {p : List Byte} {v : Verdict}
    (hs : s.receives q ∧ s.admits q.tag ∧ q.station = 127 ∧ s.freeMgmtBuf = some k) (hf : q.function = 2)
    (hpos : q.position = 0) (ho : q.object = c.number) (hpay : q.payload = p) (hl : p.length = c.argSize)
    (hv : runCommand (s.readyRx.countFrame.occupyMgmt q k) q.tag p c = v) :
    exec .upstreamFrameEnd s
      = .next (((s.readyRx.countFrame.occupyMgmt q k).conclude q (.command c) v).start) := by
  obtain ⟨hrec, hadm, h127, hk⟩ := hs
  have hx : ¬ q.function = fnExchange := by rw [hf]; decide
  rw [exec_of_agent hrec hadm h127 hk, manage_write hf, ho, objectOf_command,
    mgmtWrite_of_checks rfl (fun e => absurd e hx) (.inl hpos) (fun n hn => by cases hn; rw [hpay]; exact hl),
    ← hv, ← hpay]
  rfl

/-- A command that is done and changes nothing is answered DONE. -/
theorem conclude_unchanged {s : State} {q : Request} {k : Fin 4} (hf : q.function = 2) (o : MgmtObject) :
    s.agentDone ((s.readyRx.countFrame.occupyMgmt q k).conclude q o
        (.done (s.readyRx.countFrame.occupyMgmt q k))) q k
      ∧ s.sameTables ((s.readyRx.countFrame.occupyMgmt q k).conclude q o
        (.done (s.readyRx.countFrame.occupyMgmt q k))) := by
  have hx : ¬ q.function = fnExchange := by rw [hf]; decide
  obtain ⟨hrec, hslot, _, hother, hret, htables⟩ := capture_effect s (q := q) (k := k) (v := [])
  rw [State.conclude_done, if_neg hx]
  rw [List.take_nil] at hslot
  exact ⟨⟨hrec, hslot, hother, by simp [State.sameBuffers, State.capture_empty], hret⟩, htables⟩

/-- Settles O29: every argument check of a command answers BAD_VALUE. -/
theorem commandsWithBadArgumentsAreRefused : Obligations.CommandsWithBadArgumentsAreRefused := by
  unfold Obligations.CommandsWithBadArgumentsAreRefused
  refine ⟨fun s h k a i q hs hp hbad hq => ?_, fun s q k hrec hadm h127 hk hf hpos => ⟨?_, ?_⟩⟩
  · rw [exec_of_requestOfRow hq]
    rcases hbad with ⟨he, rfl | rfl | rfl | rfl⟩ | ⟨hr, rfl⟩ | ⟨hr, rfl⟩ | ⟨h1, h2, rfl | rfl⟩ | ⟨hst, rfl⟩
      | ⟨hn, rfl | rfl | rfl⟩ <;> cases hq
    · exact command_refused hs hp rfl (cmdEntryHold_badValue h.tag he)
    · exact command_refused hs hp rfl (cmdEntryRelease_badValue he)
    · exact command_refused hs hp rfl (cmdEntryBar_badValue he)
    · exact command_refused hs hp rfl (cmdEntryUnbar_badValue he)
    · exact command_refused hs hp rfl (cmdStreamRewind_badValue hr)
    · exact command_refused hs hp rfl (cmdMirrorInvalidate_badValue hr)
    · exact command_refused hs hp rfl (cmdSegmentEnable_badValue ⟨h1, h2⟩)
    · exact command_refused hs hp rfl (cmdSegmentDisable_badValue h.tag ⟨h1, h2⟩)
    · exact command_refused hs hp rfl (cmdStationForget_badValue hst)
    · exact command_refused hs hp rfl (cmdNoticeAck_badValue hn)
    · exact command_refused hs hp rfl (cmdNoticeForce_badValue (.inl hn))
    · exact command_refused hs hp rfl (cmdNoticeForce_badValue (.inl hn))
  · intro a ho hpay h1 h2
    exact ⟨_, exec_of_command (c := .restart) ⟨hrec, hadm, h127, hk⟩ hf hpos ho hpay rfl
      (cmdRestart_badValue q.tag h1 h2), refuse_agentRefuses s⟩
  · refine fun n f ho hpay => ⟨fun hbad => ?_, fun hn hflags => ?_⟩
    · exact ⟨_, exec_of_command (c := .noticeForce) ⟨hrec, hadm, h127, hk⟩ hf hpos ho hpay rfl
        (cmdNoticeForce_badValue hbad), refuse_agentRefuses s⟩
    · exact ⟨_, exec_of_command (c := .noticeForce) ⟨hrec, hadm, h127, hk⟩ hf hpos ho hpay rfl
        (cmdNoticeForce_nothing hn hflags), conclude_unchanged hf _⟩

end Sys2Proof.Machine

/-! # PROOFS. What the check functions of the writes refuse (O28). -/

namespace Sys2Proof.Machine

/-! ## The ranges of the fields (R174 to R176) -/

theorem homeOf_eq_none {b : Byte} (h : 2 < b.toNat) : homeOf b = none := by
  have h0 : b ≠ 0 := by rintro rfl; exact absurd h (by decide)
  have h1 : b ≠ 1 := by rintro rfl; exact absurd h (by decide)
  have h2 : b ≠ 2 := by rintro rfl; exact absurd h (by decide)
  rw [homeOf, if_neg h0, segOf_eq_none.mpr ⟨h1, h2⟩, Option.map_none]

theorem boolOf_eq_none {b : Byte} (h : 1 < b.toNat) : boolOf b = none := by
  have h0 : b ≠ 0 := by rintro rfl; exact absurd h (by decide)
  have h1 : b ≠ 1 := by rintro rfl; exact absurd h (by decide)
  rw [boolOf, if_neg h0, if_neg h1]

theorem fallbackOf_eq_none {b : Byte} : fallbackOf b = none ↔ 1 < b.toNat := by
  revert b; decide

theorem keyOf_eq_none {b : Byte} : keyOf b = none ↔ 126 < b.toNat ∧ b ≠ 0xFF := by
  revert b; decide

theorem functionsOf_eq_none {b : Byte} : functionsOf b = none ↔ 15 < b.toNat := by
  unfold functionsOf
  split <;> simp_all

theorem actionOf_eq_none {act rec : Byte} :
    actionOf act rec = none ↔ 3 < act.toNat ∨ act ≠ 0 ∧ 47 < rec.toNat := by
  have hrec : indexOf 48 rec = none ↔ 47 < rec.toNat := indexOf_eq_none
  unfold actionOf
  split
  · next h => simp [h]
  · next h0 =>
    split
    · next h => simp [h, hrec]
    · split
      · next h => simp [h, hrec]
      · split
        · next h => simp [h, hrec]
        · next h1 h2 h3 => exact iff_of_true rfl (.inl (by bv_omega))

/-- The range checks of an entry write, one per field (R3, R175). -/
theorem entryOf_eq_none (p : List Byte) : entryOf p = none ↔
    31 < (byteAt p 0).toNat ∨ (126 < (byteAt p 1).toNat ∧ byteAt p 1 ≠ 0xFF) ∨ 15 < (byteAt p 2).toNat
      ∨ 3 < (byteAt p 7).toNat ∨ (byteAt p 7 ≠ 0 ∧ 47 < (byteAt p 8).toNat) ∨ 1 < (byteAt p 9).toNat
      ∨ (byteAt p 10 ≠ 1 ∧ byteAt p 10 ≠ 2) := by
  have hbind : ∀ {α β : Type} (o : Option α) (f : α → Option β),
      o.bind f = none ↔ o = none ∨ ∃ a, o = some a ∧ f a = none := fun o f => by cases o <;> simp
  rw [← keyOf_eq_none, ← functionsOf_eq_none, ← or_assoc (a := 3 < _), ← actionOf_eq_none, ← fallbackOf_eq_none,
    ← segOf_eq_none]
  unfold entryOf
  dsimp only
  split
  · next h => simp [h]
  · next h =>
    cases keyOf (byteAt p 1) <;> cases functionsOf (byteAt p 2) <;> cases actionOf (byteAt p 7) (byteAt p 8) <;>
      cases fallbackOf (byteAt p 9) <;> cases segOf (byteAt p 10) <;> simp [h]

theorem FunctionSet.isEmpty_iff (f : FunctionSet) :
    f.isEmpty = true ↔ f.read = false ∧ f.write = false ∧ f.exchange = false ∧ f.ping = false := by
  simp [FunctionSet.isEmpty, and_assoc]

/-- What a consistent entry meets (R3). -/
theorem entryConsistent_iff (s : State) (e : Entry) : s.entryConsistent e = true ↔
    ¬ e.functions.isEmpty = true ∧ e.objectLow.toNat ≤ e.objectHigh.toNat
      ∧ (e.action.kind = .mirror → e.objectLow = e.objectHigh)
      ∧ ∀ r, e.action.record? = some r → (s.record r).kind = e.action.kind := by
  rw [imp_iff_not_or]
  unfold State.entryConsistent
  cases e.action.record? with
  | none => simp [and_assoc]
  | some r => simp [and_assoc]

/-- The consistency checks of a valid entry, failed (R3). -/
theorem entryConsistent_eq_false (s : State) (e : Entry) : s.entryConsistent e = false ↔
    (e.functions.read = false ∧ e.functions.write = false ∧ e.functions.exchange = false
        ∧ e.functions.ping = false)
      ∨ e.objectHigh.toNat < e.objectLow.toNat
      ∨ (∃ r, e.action = .answer r ∧ (s.record r).kind ≠ .fixed)
      ∨ (∃ r, e.action = .stream r ∧ (s.record r).kind ≠ .stream)
      ∨ ∃ r, e.action = .mirror r ∧ ((s.record r).kind ≠ .mirror ∨ e.objectLow ≠ e.objectHigh) := by
  rw [← Bool.not_eq_true, entryConsistent_iff, ← FunctionSet.isEmpty_iff]
  simp only [not_and_or, not_not, not_forall, Nat.not_le, exists_prop]
  refine or_congr_right (or_congr_right ?_)
  cases e.action with
  | forward => simp [Action.kind, Action.record?]
  | answer r => simp [Action.kind, Action.record?]
  | stream r => simp [Action.kind, Action.record?]
  | mirror r => simp [Action.kind, Action.record?, or_comm]

/-! ## Descriptors (R53, R55, R57) -/

/-- A 16-bit field carries its high byte first (scope chapter, "Byte order"). -/
theorem halfOf_toNat (hi lo : Byte) : (halfOf hi lo).toNat = 256 * hi.toNat + lo.toNat := by
  rw [halfOf, BitVec.toNat_append, ← Nat.shiftLeft_add_eq_or_of_lt lo.isLt, Nat.shiftLeft_eq, Nat.mul_comm]

/-- The range checks of a descriptor write, by its kind (R55 check 2, R176). -/
theorem descriptorOf_eq_none {p : List Byte} {base size : Nat}
    (hbase : base = 256 * (byteAt p 1).toNat + (byteAt p 2).toNat)
    (hsize : size = 256 * (byteAt p 3).toNat + (byteAt p 4).toNat) :
    descriptorOf p = none ↔ 3 < (byteAt p 0).toNat ∨ (byteAt p 0 ≠ 0 ∧ 12288 ≤ base)
      ∨ ((byteAt p 0 = 1 ∨ byteAt p 0 = 3) ∧ (size = 0 ∨ 240 < size))
      ∨ (byteAt p 0 = 2 ∧ (size = 0 ∨ 12288 < size ∨ byteAt p 5 = 0 ∨ 240 < (byteAt p 5).toNat)) := by
  unfold descriptorOf
  simp only [halfOf_toNat, ← hbase, ← hsize]
  generalize byteAt p 0 = kind
  generalize byteAt p 5 = chunk
  have hchunk : chunk = 0#8 ↔ chunk.toNat = 0 := by bv_omega
  by_cases h0 : kind = 0
  · simp [h0]
  rw [if_neg h0]
  by_cases hb : 12288 ≤ base
  · exact iff_of_true (if_pos hb) (.inr (.inl ⟨h0, hb⟩))
  rw [if_neg hb]
  by_cases h1 : kind = 1
  · simp [h1, hb]
    omega
  rw [if_neg h1]
  by_cases h2 : kind = 2
  · simp [h2, hb, hchunk, Config.storeSize]
    omega
  rw [if_neg h2]
  by_cases h3 : kind = 3
  · simp [h3, hb]
    omega
  rw [if_neg h3]
  exact iff_of_true rfl (.inl (by bv_omega))

/-- Two regions overlap when they share a byte (R53). -/
theorem regionsOverlap_iff (a b : Record) : regionsOverlap a b = true ↔
    ∃ x, a.base ≤ x ∧ x < a.base + a.size ∧ b.base ≤ x ∧ x < b.base + b.size := by
  simp only [regionsOverlap, Bool.and_eq_true, decide_eq_true_eq]
  constructor
  · rintro ⟨⟨⟨ha, hb⟩, hab⟩, hba⟩
    exact ⟨max a.base b.base, by omega⟩
  · rintro ⟨x, hx⟩
    omega

theorem overlapsOther_iff (s : State) (n : RecordNo) (new : Record) : s.overlapsOther n new = true ↔
    ∃ m, m ≠ n ∧ ∃ a, new.base ≤ a ∧ a < new.base + new.size
      ∧ (s.record m).base ≤ a ∧ a < (s.record m).base + (s.record m).size := by
  simp [State.overlapsOther, indexes, regionsOverlap_iff]

/-- A record is referenced when a valid entry's action names it (R57). -/
theorem referenced_iff (s : State) (n : RecordNo) : s.referenced n = true ↔
    ∃ e, (s.entry e).valid = true
      ∧ ((s.entry e).action = .answer n ∨ (s.entry e).action = .stream n ∨ (s.entry e).action = .mirror n) := by
  have haction : ∀ a : Action, a.record? = some n ↔ a = .answer n ∨ a = .stream n ∨ a = .mirror n := fun a => by
    cases a <;> simp [Action.record?]
  simp only [State.referenced, List.any_eq_true, Bool.and_eq_true, decide_eq_true_eq, haction]
  constructor
  · rintro ⟨e, hmem, hv, ha⟩
    obtain ⟨i, hi, rfl⟩ := List.getElem_of_mem hmem
    exact ⟨⟨i, by simpa using hi⟩, hv, ha⟩
  · rintro ⟨e, hv, ha⟩
    exact ⟨s.entry e, by simp [State.entry], hv, ha⟩

end Sys2Proof.Machine

/-! # PROOFS. Writes that fail a check (O28). -/

namespace Sys2Proof.Machine

/-! ## The verdicts on writes whose checks fail (R3, R55, R60, R94, R103, R129, R135, R154) -/

section Verdicts

variable {s : State}

theorem writeEntry_badValue {n : EntryNo} {p : List Byte}
    (h : entryOf p = none ∨ ∃ new, entryOf p = some new ∧ new.valid = true ∧ s.entryConsistent new = false) :
    writeEntry s n p = .badValue := by
  rcases h with hnone | ⟨new, hnew, hvalid, hcons⟩
  · simp [writeEntry, hnone]
  · simp [writeEntry, hnew, hvalid, hcons]

theorem writeDescriptor_badValue {n : RecordNo} {p : List Byte} (h : descriptorOf p = none) :
    writeDescriptor s n p = .badValue := by simp [writeDescriptor, h]

theorem writeDescriptor_badRegion {n : RecordNo} {p : List Byte} {new : Record} (hnew : descriptorOf p = some new)
    (h : Config.storeSize < new.base + new.size ∨ s.overlapsOther n new = true) :
    writeDescriptor s n p = .badValue := by
  simp only [writeDescriptor, hnew]
  split
  · rfl
  · next hin => rw [if_pos (h.resolve_left hin)]

theorem writeDescriptor_inUse {n : RecordNo} {p : List Byte} {new : Record} (hnew : descriptorOf p = some new)
    (hin : new.base + new.size ≤ Config.storeSize) (hover : s.overlapsOther n new = false)
    (hpins : 0 < (s.record n).pins) : writeDescriptor s n p = .refused .busy .inUse := by
  simp [writeDescriptor, hnew, hin.not_gt, hover, hpins]

theorem writeDescriptor_referenced {n : RecordNo} {p : List Byte} {new : Record} (hnew : descriptorOf p = some new)
    (hin : new.base + new.size ≤ Config.storeSize) (hover : s.overlapsOther n new = false)
    (hpins : (s.record n).pins = 0) (href : s.referenced n = true)
    (hkind : new.kind ≠ (s.record n).kind ∨ new.kind = .none) :
    writeDescriptor s n p = .refused .refused .referenced := by
  have hbad : (s.referenced n && (new.kind ≠ (s.record n).kind || new.kind = .none)) = true := by
    simpa [href] using hkind
  simp only [writeDescriptor, hnew]
  rw [if_neg hin.not_gt, if_neg (by simp [hover]), if_neg (by simp [hpins]), if_pos hbad]

theorem writeStation_badValue {i : StationNo} {b : Byte} (h : 2 < b.toNat) : writeStation s i [b] = .badValue := by
  rw [writeStation, show byteAt [b] 0 = b from rfl, homeOf_eq_none h]

theorem writeNode_badValue {n : NodeNo} {l b : Byte} (h : 63 < l.toNat ∨ 1 < b.toNat) :
    writeNode s n [l, b] = .badValue := by
  rw [writeNode, show byteAt [l, b] 0 = l from rfl, show byteAt [l, b] 1 = b from rfl]
  rcases h with hl | hb
  · rw [indexOf_eq_none.mpr hl]
  · rw [boolOf_eq_none hb]
    cases indexOf 64 l <;> rfl

theorem writeGeneral_badValue {m a b : Byte} (h : 1 < m.toNat ∨ a = 0 ∨ 15 < a.toNat ∨ 63 < b.toNat) :
    writeGeneral s [m, a, b] = .badValue := by
  rw [writeGeneral, show byteAt [m, a, b] 0 = m from rfl, show byteAt [m, a, b] 1 = a from rfl,
    show byteAt [m, a, b] 2 = b from rfl]
  split
  · next miss threshold base hm ha hb =>
    rcases h with h | rfl | h | h
    · rw [fallbackOf_eq_none.mpr h] at hm
      cases hm
    · cases ha
      rfl
    · rw [indexOf_eq_none.mpr h] at ha
      cases ha
    · rw [indexOf_eq_none.mpr h] at hb
      cases hb
  · rfl

theorem writeSegmentConfig_badValue {x : Seg} {a b c d : Byte} (h : a = 0 ∨ 7 < b.toNat ∨ (c = 0 ∧ d = 0)) :
    writeSegmentConfig s x [a, b, c, d] = .badValue := by
  rw [writeSegmentConfig, show byteAt [a, b, c, d] 0 = a from rfl, show byteAt [a, b, c, d] 1 = b from rfl,
    show byteAt [a, b, c, d] 2 = c from rfl, show byteAt [a, b, c, d] 3 = d from rfl]
  split
  · rfl
  · next limit hlimit =>
    rw [if_pos]
    rcases h with h | h | ⟨rfl, rfl⟩
    · exact .inl h
    · rw [indexOf_eq_none.mpr h] at hlimit
      cases hlimit
    · exact .inr rfl

theorem writeRecordData_badValue {n : RecordNo} {position : Nat} {p : List Byte}
    (h : (s.record n).kind = .none ∨ p = [] ∨ (s.record n).size < position + p.length) :
    writeRecordData s n position p = .badValue := by
  unfold writeRecordData
  split
  · rfl
  · next hkind =>
    split
    · rfl
    · next hlen =>
      rw [if_pos]
      rcases h with h | rfl | h
      · exact absurd h hkind
      · exact absurd rfl hlen
      · exact h

theorem writeRecordData_inUse {n : RecordNo} {position : Nat} {p : List Byte} (hkind : (s.record n).kind ≠ .none)
    (hp : p ≠ []) (hsize : position + p.length ≤ (s.record n).size) (hpins : 0 < (s.record n).pins) :
    writeRecordData s n position p = .refused .busy .inUse := by
  rw [writeRecordData, if_neg hkind, if_neg (by simpa using hp), if_neg hsize.not_gt, if_pos hpins]

end Verdicts

/-! ## The rows of those writes -/

section Rows

variable {s : State} {h : WriteHead} {w : WriteKind} {k : Fin 4}

/-- A descriptor write refused by a check of R55, in the order of the checks. -/
theorem descriptorWrite_refused (hs : s.reachesAgent h.tag k) (hg : goodLength w h) (hp : h.position = 0)
    {n : RecordNo} {p : List Byte} {st : Status} {rs : Reason} (hl : p.length = 8)
    (hbad : (descriptorOf p = none ∧ st = .refused ∧ rs = .badValue)
      ∨ ∃ new, descriptorOf p = some new
        ∧ ((Config.storeSize < new.base + new.size ∨ s.overlapsOther n new = true)
            ∧ st = .refused ∧ rs = .badValue
          ∨ new.base + new.size ≤ Config.storeSize ∧ s.overlapsOther n new = false
            ∧ (0 < (s.record n).pins ∧ st = .busy ∧ rs = .inUse
              ∨ (s.record n).pins = 0 ∧ s.referenced n = true
                ∧ (new.kind ≠ (s.record n).kind ∨ new.kind = .none) ∧ st = .refused ∧ rs = .referenced))) :
    ∃ u, exec (.descriptorWrite h w n p) s = .next u.start
      ∧ s.agentRefuses u (writeRequest h w (descriptorObject n) p) k st rs := by
  refine write_refused hs hg (by omega) (objectOf_descriptor n) rfl rfl (.inl hp) (fun m hm => by cases hm; exact hl) ?_
  rcases hbad with ⟨hnone, rfl, rfl⟩ | ⟨new, hnew, ⟨hregion, rfl, rfl⟩ | ⟨hin, hover, ⟨hpins, rfl, rfl⟩
    | ⟨hpins, href, hkind, rfl, rfl⟩⟩⟩
  · exact writeDescriptor_badValue hnone
  · exact writeDescriptor_badRegion hnew hregion
  · exact writeDescriptor_inUse hnew hin hover hpins
  · exact writeDescriptor_referenced hnew hin hover hpins href hkind

/-- A record data write refused by a check of R60, in the order of the checks. -/
theorem recordDataWrite_refused (hs : s.reachesAgent h.tag k) (hg : goodLength w h)
    {n : RecordNo} {p : List Byte} {st : Status} {rs : Reason} (hl : p.length ≤ 240)
    (hbad : ((s.record n).kind = .none ∨ p = [] ∨ (s.record n).size < h.position.toNat + p.length)
        ∧ st = .refused ∧ rs = .badValue
      ∨ (s.record n).kind ≠ .none ∧ p ≠ [] ∧ h.position.toNat + p.length ≤ (s.record n).size
        ∧ 0 < (s.record n).pins ∧ st = .busy ∧ rs = .inUse) :
    ∃ u, exec (.recordDataWrite h w n p) s = .next u.start
      ∧ s.agentRefuses u (writeRequest h w (recordDataObject n) p) k st rs := by
  refine write_refused hs hg hl (objectOf_recordData n) rfl rfl (.inr rfl) (fun m hm => by cases hm) ?_
  rcases hbad with ⟨hrange, rfl, rfl⟩ | ⟨hkind, hp, hsize, hpins, rfl, rfl⟩
  · exact writeRecordData_badValue hrange
  · exact writeRecordData_inUse hkind hp hsize hpins

/-- A write with a payload of the object's size that its owner refuses BAD_VALUE. -/
theorem write_badValue (hs : s.reachesAgent h.tag k) (hg : goodLength w h) (hp : h.position = 0) {o : Half}
    {ob : MgmtObject} {p : List Byte} {n : Nat} (ho : objectOf o = ob) (hw : ob.writable = true)
    (hr : ob.readable = true) (hsize : ob.writeSize = some n) (hn : n ≤ 240) (hl : p.length = n)
    (hu : ownerWrite (s.readyRx.countFrame.occupyMgmt (writeRequest h w o p) k) (writeRequest h w o p) ob
      = .badValue) :
    ∃ u, requestEvent (writeRequest h w o p) s = .next u.start
      ∧ s.agentRefuses u (writeRequest h w o p) k .refused .badValue :=
  write_refused hs hg (by omega) ho hw hr (.inl hp) (fun m hm => by rw [hsize] at hm; cases hm; exact hl) hu

end Rows

/-- Settles O28: each object's checks in their order, then what each check function refuses. -/
theorem writesFailingACheckAreRefused : Obligations.WritesFailingACheckAreRefused := by
  unfold Obligations.WritesFailingACheckAreRefused
  refine ⟨fun s h w k hs hg => ⟨fun hp => ⟨fun n p hl hbad => ?_, fun n p st rs => descriptorWrite_refused hs hg hp,
      fun i b hb => ?_, fun n l b hb => ?_, fun m a b hb => ?_, fun x a b c d hb => ?_, ?_⟩,
      fun n p st rs => recordDataWrite_refused hs hg⟩,
    entryOf_eq_none, entryConsistent_eq_false, fun p base size => descriptorOf_eq_none, overlapsOther_iff,
    referenced_iff⟩
  · exact write_badValue hs hg hp (objectOf_entry n) rfl rfl rfl (by decide) hl (writeEntry_badValue hbad)
  · exact write_badValue hs hg hp (objectOf_station i) rfl rfl rfl (by decide) rfl (writeStation_badValue hb)
  · exact write_badValue hs hg hp (objectOf_node n) rfl rfl rfl (by decide) rfl (writeNode_badValue hb)
  · exact write_badValue hs hg hp (ob := .general) (by decide) rfl rfl rfl (by decide) rfl (writeGeneral_badValue hb)
  · exact write_badValue hs hg hp (objectOf_segment x) rfl rfl rfl (by decide) rfl (writeSegmentConfig_badValue hb)
  · exact write_badValue hs hg hp (ob := .notice) (by decide) rfl rfl rfl (by decide) rfl rfl

end Sys2Proof.Machine

/-! # PROOFS. The place law and the account law inside an event, with the slots in hand (O58, O59). -/

namespace Sys2Proof.Machine

/-! ## Places (R30, R77, R113) -/

/-- The slot that an engine carries, as a list. -/
def Carried.tags : Carried → List Tag
  | .nothing => []
  | .slot t  => [t]
  | .probe _ => []

/-- The slot that the transmitter carries, as a list. -/
def TxCarried.tags : TxCarried → List Tag
  | .nothing => []
  | .slot t  => [t]
  | .clash   => []
  | .notice  => []

/-- The slots in the place that a state names (R30); a FREE slot is in none. -/
def State.listOf (s : State) : SlotState → List Tag
  | .free      => []
  | .queued    => s.segA.queue ++ s.segB.queue
  | .onWire    => s.segA.carried.tags ++ s.segB.carried.tags
  | .waiting   => s.mga.pendingRecords.map PendingRecord.tag
  | .returning => s.rtp.queue
  | .sending   => s.rtp.carries.tags

/-- Every slot is once in the place that its state names, but for the slots in hand, which are in no place. -/
structure Places (list : SlotState → List Tag) (state : Tag → SlotState) (hand : List Tag) : Prop where
  mem      : ∀ t st, st ≠ .free → (t ∈ list st ↔ t ∉ hand ∧ state t = st)
  nodup    : ∀ st, (list st).Nodup
  handOnce : hand.Nodup

namespace Places

variable {list list' : SlotState → List Tag} {state state' : Tag → SlotState} {hand : List Tag}

/-- The slots of a place are not in hand. -/
theorem not_mem_hand (P : Places list state hand) {t : Tag} {st : SlotState} (hst : st ≠ .free) (h : t ∈ list st) :
    t ∉ hand := ((P.mem t st hst).1 h).1

theorem state_of_mem (P : Places list state hand) {t : Tag} {st : SlotState} (hst : st ≠ .free) (h : t ∈ list st) :
    state t = st := ((P.mem t st hst).1 h).2

/-- Slots are taken from a place in hand. -/
theorem take (P : Places list state hand) {st : SlotState} (hst : st ≠ .free) {l : List Tag}
    (hl : (list st).Perm (l ++ list' st)) (ho : ∀ st', st' ≠ st → list' st' = list st') :
    Places list' state (l ++ hand) := by
  have hnd := hl.nodup_iff.1 (P.nodup st)
  obtain ⟨hnl, hn', hdisj⟩ := List.nodup_append.1 hnd
  have hmem (t) : t ∈ list st ↔ t ∈ l ∨ t ∈ list' st := by rw [hl.mem_iff, List.mem_append]
  have hfrom (t) (ht : t ∈ l) : t ∉ hand ∧ state t = st := (P.mem t st hst).1 ((hmem t).2 (.inl ht))
  refine ⟨fun t st' hst' => ?_, fun st' => ?_, List.nodup_append.2 ⟨hnl, P.handOnce, ?_⟩⟩
  · rw [List.mem_append, not_or]
    by_cases he : st' = st
    · subst he
      constructor
      · intro h
        obtain ⟨hh, hs⟩ := (P.mem t st' hst).1 ((hmem t).2 (.inr h))
        exact ⟨⟨fun hl => hdisj t hl t h rfl, hh⟩, hs⟩
      · rintro ⟨⟨hl, hh⟩, hs⟩
        exact ((hmem t).1 ((P.mem t st' hst).2 ⟨hh, hs⟩)).resolve_left hl
    · rw [ho st' he, P.mem t st' hst']
      constructor
      · rintro ⟨hh, hs⟩
        exact ⟨⟨fun hl => he (hs.symm.trans (hfrom t hl).2), hh⟩, hs⟩
      · rintro ⟨⟨_, hh⟩, hs⟩
        exact ⟨hh, hs⟩
  · by_cases he : st' = st
    · rw [he]; exact hn'
    · rw [ho st' he]; exact P.nodup st'
  · rintro t ht _ hh rfl
    exact (hfrom t ht).1 hh

/-- A slot in hand is put in the place that its state names. -/
theorem put {t : Tag} (P : Places list state (t :: hand)) {st : SlotState} (hst : st ≠ .free)
    (hs : state t = st) (hl : (list' st).Perm (t :: list st)) (ho : ∀ st', st' ≠ st → list' st' = list st') :
    Places list' state hand := by
  obtain ⟨hth, hnh⟩ := List.nodup_cons.1 P.handOnce
  refine ⟨fun v st' hst' => ?_, fun st' => ?_, hnh⟩
  · by_cases he : st' = st
    · subst he
      rw [hl.mem_iff, List.mem_cons, P.mem v st' hst', List.mem_cons, not_or]
      by_cases hv : v = t
      · subst hv; simp [hs, hth]
      · simp [hv]
    · rw [ho st' he, P.mem v st' hst', List.mem_cons, not_or]
      by_cases hv : v = t
      · subst hv; simp [hs, Ne.symm he]
      · simp [hv]
  · by_cases he : st' = st
    · subst he
      rw [hl.nodup_iff, List.nodup_cons]
      exact ⟨fun h => P.not_mem_hand hst h (by simp), P.nodup st'⟩
    · rw [ho st' he]; exact P.nodup st'

/-- A FREE slot in hand is in its place. -/
theorem putFree {t : Tag} (P : Places list state (t :: hand)) (hs : state t = .free) : Places list state hand := by
  obtain ⟨hth, hnh⟩ := List.nodup_cons.1 P.handOnce
  refine ⟨fun v st hst => ?_, P.nodup, hnh⟩
  rw [P.mem v st hst, List.mem_cons, not_or]
  by_cases hv : v = t
  · subst hv; simp [hs, Ne.symm hst]
  · simp [hv]

/-- A FREE slot is taken in hand. -/
theorem takeFree (P : Places list state hand) {t : Tag} (hs : state t = .free) (ht : t ∉ hand) :
    Places list state (t :: hand) := by
  refine ⟨fun v st hst => ?_, P.nodup, List.nodup_cons.2 ⟨ht, P.handOnce⟩⟩
  rw [P.mem v st hst, List.mem_cons, not_or]
  by_cases hv : v = t
  · subst hv; simp [hs, Ne.symm hst]
  · simp [hv]

/-- A slot in hand may change its state. -/
theorem restate (P : Places list state hand) (h : ∀ t, t ∉ hand → state' t = state t) : Places list state' hand := by
  refine ⟨fun t st hst => ?_, P.nodup, P.handOnce⟩
  rw [P.mem t st hst]
  constructor
  · rintro ⟨hh, hs⟩
    exact ⟨hh, (h t hh).trans hs⟩
  · rintro ⟨hh, hs⟩
    exact ⟨hh, (h t hh).symm.trans hs⟩

end Places

/-! ## What the laws say of one segment, of one slot and of a state inside an event -/

/-- The segment laws of one controller; `B` guards what the hold law adds (R76, R78, R85, R91, R95). -/
structure Segment.Lawful (B : Prop) (g : Segment) : Prop where
  drains : g.waitingDisable.isSome = true ↔ g.segState = .draining
  rests  : g.segState ≠ .enabled → g.queue = [] ∧ g.probeDue = false ∧ g.probeTimer = none
  off    : g.segState = .disabled → g.carried = .nothing
  idle   : g.engine = .idle → g.carried = .nothing
  busy   : g.engine = .sending ∨ g.engine = .awaiting → g.carried ≠ .nothing
  timed  : B → g.engine = .awaiting → g.responseTimer.isSome = true
  failed : B → ∀ t, g.engine = .gap → g.carried = .slot t → g.failure.isSome = true

/-- The laws of one slot; `B` guards what the hold law adds (R11, R45, R58, R117). -/
structure Slot.Lawful (B : Prop) (sl : Slot) : Prop where
  attached : sl.attached = true → sl.entry.isSome = true ∧ (sl.state = .queued ∨ sl.state = .onWire)
  sourced  : sl.source.isSome = true → sl.state = .returning ∨ sl.state = .sending
  buffered : B → sl.state = .queued ∨ sl.state = .onWire → sl.frameBuf.isSome = true ∧ sl.station ≠ 127
  answered : B → sl.state = .returning ∨ sl.state = .sending →
    sl.status.isSome = true ∧ sl.reason.isSome = true ∧ sl.source.isSome = true
      ∧ (∀ n, sl.source = some (.buffer n) → sl.frameBuf.isSome = true)
      ∧ (∀ n, sl.source = some (.management n) → sl.mgmtBuf.isSome = true)

namespace State

/-- The slot that the block of a waiting command names (R20, R95). -/
def waitOf (s : State) : WaitingCommand → Option Tag
  | .entryHold e      => (s.entry e).holder
  | .segmentDisable x => (s.seg x).waitingDisable

/-- The laws as they stand between two operations of one event.  The slots `h` are in hand: they stand in no place,
whatever their state says, and a FREE one may hold something.  The segment `d`, if any, may have a dispatch left to
make.  `B` guards what the hold law and the claim law add to the place law and the account law. -/
structure Laws (B : Prop) (d : Option Seg) (h : List Tag) (s : State) : Prop where
  places    : Places s.listOf (fun t => (s.slot t).state) h
  waits     : ∀ c t, s.waitOf c = some t ↔ { tag := t, command := c } ∈ s.mga.pendingRecords
  segs      : ∀ x, (s.seg x).Lawful B
  ready     : ∀ x, d ≠ some x → (s.seg x).mayDispatch = false
  sends     : s.rtp.carries = .nothing ↔ s.rtp.txState ≠ .transmitting
  inFlight  : ∀ e, (s.entry e).inFlight
    = (indexes 32).countP (fun t => (s.slot t).attached && decide ((s.slot t).entry = some e))
  pins      : ∀ r, (s.record r).pins = (indexes 32).countP (fun t => (s.slot t).reads r)
  slots     : ∀ t, (s.slot t).Lawful B
  blank     : ∀ t, t ∉ h → (s.slot t).state = .free → s.slot t = {}
  frameBufs : ∀ t v k, (s.slot t).frameBuf = some k → (s.slot v).frameBuf = some k → v = t
  mgmtBufs  : ∀ t v k, (s.slot t).mgmtBuf = some k → (s.slot v).mgmtBuf = some k → v = t
  claims    : B → s.claimLaw

/-- No start of transmission is left to make (R115). -/
def Started (s : State) : Prop :=
  s.rtp.txState = .idle → s.ntu.dueNode = none ∧ s.ort.clashQueue = [] ∧ s.rtp.queue = []

/-! ## The laws between events -/

variable {B : Prop} {s : State}

theorem forall_waitingCommand {p : WaitingCommand → Prop} :
    (∀ c, p c) ↔ (∀ e, p (.entryHold e)) ∧ ∀ x, p (.segmentDisable x) :=
  ⟨fun h => ⟨fun _ => h _, fun _ => h _⟩, fun h c => by cases c; exacts [h.1 _, h.2 _]⟩

theorem mem_carriedTags {c : Carried} {t : Tag} : t ∈ c.tags ↔ c = .slot t := by
  cases c <;> simp [Carried.tags, eq_comm]

theorem mem_txCarriedTags {c : TxCarried} {t : Tag} : t ∈ c.tags ↔ c = .slot t := by
  cases c <;> simp [TxCarried.tags, eq_comm]

theorem nodup_carriedTags (c : Carried) : c.tags.Nodup := by cases c <;> simp [Carried.tags]

theorem nodup_txCarriedTags (c : TxCarried) : c.tags.Nodup := by cases c <;> simp [TxCarried.tags]

theorem placed_iff {t : Tag} : s.placed t ↔ ∀ st, st ≠ .free → (t ∈ s.listOf st ↔ (s.slot t).state = st) := by
  constructor
  · rintro ⟨hq, hw, hp, hr, hx⟩ st hst
    cases st
    · exact absurd rfl hst
    · exact List.mem_append.trans hq
    · exact (List.mem_append.trans (or_congr mem_carriedTags mem_carriedTags)).trans hw
    · exact hp
    · exact hr
    · exact mem_txCarriedTags.trans hx
  · intro h
    exact ⟨List.mem_append.symm.trans (h .queued (by decide)),
      (List.mem_append.trans (or_congr mem_carriedTags mem_carriedTags)).symm.trans (h .onWire (by decide)),
      h .waiting (by decide), h .returning (by decide), mem_txCarriedTags.symm.trans (h .sending (by decide))⟩

/-- Two engines carry no slot at once. -/
theorem nodup_carried_iff {a b : Carried} :
    (a.tags ++ b.tags).Nodup ↔ ∀ t, a = .slot t → b ≠ .slot t := by
  rw [List.nodup_append]
  simp only [mem_carriedTags, nodup_carriedTags, true_and]
  exact ⟨fun h t ha hb => h t ha t hb rfl, fun h t ha v hb e => h t ha (e ▸ hb)⟩

/-- Between events no slot is in hand and no dispatch is left to make. -/
theorem laws_of_laws (hp : s.placeLaw) (ha : s.accountLaw) (hh : B → s.holdLaw ∧ s.claimLaw) : s.Laws B none [] := by
  obtain ⟨hplaced, ⟨hhold, hdis, honce⟩, hqueue, hreturn, hcarried, hdrain, hrest, hoff, hidle, hbusy, hsends, hready,
    _⟩ := hp
  obtain ⟨hflight, hpins, hslots⟩ := ha
  exact {
    places := {
      mem := fun t st hst => by simpa using placed_iff.1 (hplaced t) st hst
      nodup := fun st => by
        cases st
        exacts [List.nodup_nil, hqueue, nodup_carried_iff.2 hcarried, honce, hreturn, nodup_txCarriedTags _]
      handOnce := List.nodup_nil }
    waits := forall_waitingCommand.2 ⟨hhold, hdis⟩
    segs := fun x => {
      drains := hdrain x, rests := hrest x, off := hoff x, idle := hidle x, busy := hbusy x
      timed := fun b => (hh b).1.2.2.1 x, failed := fun b => (hh b).1.2.2.2 x }
    ready := fun x _ => hready x
    sends := hsends
    inFlight := hflight
    pins := hpins
    slots := fun t => {
      attached := (hslots t).1, sourced := (hslots t).2.1
      buffered := fun b => (hh b).1.1 t, answered := fun b => (hh b).1.2.1 t }
    blank := fun t _ => (hslots t).2.2.1
    frameBufs := fun t v k h h' => by_contra fun hne => (hslots t).2.2.2.1 v k hne h h'
    mgmtBufs := fun t v k h h' => by_contra fun hne => (hslots t).2.2.2.2 v k hne h h'
    claims := fun b => (hh b).2 }

theorem Laws.toPlaceLaw (L : s.Laws B none []) (hs : s.Started) : s.placeLaw :=
  ⟨fun t => placed_iff.2 fun st hst => by simpa using L.places.mem t st hst,
    ⟨fun e => L.waits (.entryHold e), fun x => L.waits (.segmentDisable x), L.places.nodup .waiting⟩,
    L.places.nodup .queued, L.places.nodup .returning, nodup_carried_iff.1 (L.places.nodup .onWire),
    fun x => (L.segs x).drains, fun x => (L.segs x).rests, fun x => (L.segs x).off, fun x => (L.segs x).idle,
    fun x => (L.segs x).busy, L.sends, fun x => L.ready x (by simp), hs⟩

theorem Laws.toAccountLaw (L : s.Laws B none []) : s.accountLaw :=
  ⟨L.inFlight, L.pins, fun t => ⟨(L.slots t).attached, (L.slots t).sourced, L.blank t (by simp),
    fun v k hne h h' => hne (L.frameBufs t v k h h'), fun v k hne h h' => hne (L.mgmtBufs t v k h h')⟩⟩

theorem Laws.toHoldLaw (L : s.Laws B none []) (b : B) : s.holdLaw :=
  ⟨fun t => (L.slots t).buffered b, fun t => (L.slots t).answered b, fun x => (L.segs x).timed b,
    fun x => (L.segs x).failed b⟩

end State
end Sys2Proof.Machine

/-! # PROOFS. What the laws speak of, and the operations that leave it alone (O58, O59). -/

namespace Sys2Proof.Machine

/-- What the laws speak of: the slots, of each entry the in-flight count and the holder, of each record the pin count
and the claim with the length it is for, the segments, the pending command records, the return path's places and the
lengths of the frame buffers. -/
structure LawView where
  slot           : Tag → Slot
  entry          : EntryNo → Nat × Option Tag
  record         : RecordNo → Nat × Option (Tag × Nat)
  seg            : Seg → Segment
  pendingRecords : List PendingRecord
  queue          : List Tag
  txState        : TxState
  carries        : TxCarried
  bufferLength   : Fin 24 → Nat

/-- What the laws speak of in a state. -/
def State.lawView (s : State) : LawView where
  slot           := s.slot
  entry          := fun e => ((s.entry e).inFlight, (s.entry e).holder)
  record         := fun r => ((s.record r).pins, (s.record r).claim.map fun t => (t, (s.record r).length))
  seg            := s.seg
  pendingRecords := s.mga.pendingRecords
  queue          := s.rtp.queue
  txState        := s.rtp.txState
  carries        := s.rtp.carries
  bufferLength   := fun k => (s.ort.frameBuffers[k]).length

namespace State

variable {B : Prop} {d : Option Seg} {h : List Tag} {s t : State}

theorem claim_of_view (hr : t.lawView.record = s.lawView.record) (r : RecordNo) :
    (t.record r).claim = (s.record r).claim
      ∧ ∀ v, (s.record r).claim = some v → (t.record r).length = (s.record r).length := by
  have he := (Prod.mk.inj (congrFun hr r)).2
  have hclaim : (t.record r).claim = (s.record r).claim := by
    simpa [Option.map_map, Function.comp_def] using congrArg (Option.map Prod.fst) he
  refine ⟨hclaim, fun v hv => ?_⟩
  rw [hclaim, hv] at he
  exact (Prod.mk.inj (Option.some.inj he)).2

theorem slotBuffer_length (v : Tag) :
    (s.slotBuffer v).length = ((s.slot v).frameBuf.map s.lawView.bufferLength).getD 0 := by
  unfold slotBuffer
  cases (s.slot v).frameBuf <;> rfl

/-- The claim law, where slots, claims and buffers are as they were. -/
theorem claimLaw_of_view (hv : t.lawView = s.lawView) (hc : s.claimLaw) : t.claimLaw := by
  obtain ⟨hflag, hone, hside⟩ := hc
  have hslot (v) : t.slot v = s.slot v := congrFun (congrArg LawView.slot hv) v
  have hclaim := claim_of_view (congrArg LawView.record hv)
  refine ⟨fun v => ?_, fun a b v => ?_, fun r v hr => ?_⟩
  · simp only [hslot, (hclaim _).1, hflag]
  · simpa only [(hclaim _).1] using hone a b v
  · rw [(hclaim r).1] at hr
    simpa only [slotBuffer_length, hslot, congrArg LawView.bufferLength hv, (hclaim r).2 v hr] using hside r v hr

/-- A change of nothing that the laws speak of. -/
theorem Laws.of_view (L : s.Laws B d h) (hv : t.lawView = s.lawView) : t.Laws B d h := by
  have hslot (v) : t.slot v = s.slot v := congrFun (congrArg LawView.slot hv) v
  have hseg (x) : t.seg x = s.seg x := congrFun (congrArg LawView.seg hv) x
  have hpend : t.mga.pendingRecords = s.mga.pendingRecords := congrArg LawView.pendingRecords hv
  have hqueue : t.rtp.queue = s.rtp.queue := congrArg LawView.queue hv
  have htx : t.rtp.txState = s.rtp.txState := congrArg LawView.txState hv
  have hcar : t.rtp.carries = s.rtp.carries := congrArg LawView.carries hv
  have hentry (e) := Prod.mk.inj (congrFun (congrArg LawView.entry hv) e)
  have hpins (r) : (t.record r).pins = (s.record r).pins := (Prod.mk.inj (congrFun (congrArg LawView.record hv) r)).1
  have hlist : t.listOf = s.listOf := by
    have ha := hseg .a
    have hb := hseg .b
    simp only [State.seg] at ha hb
    funext st
    cases st <;> simp only [listOf, ha, hb, hpend, hqueue, hcar]
  have hwait (c) : t.waitOf c = s.waitOf c := by
    cases c with
    | entryHold e => exact (hentry e).2
    | segmentDisable x => simp only [waitOf, hseg]
  constructor
  · simpa only [hlist, hslot] using L.places
  · simpa only [hwait, hpend] using L.waits
  · simpa only [hseg] using L.segs
  · simpa only [hseg] using L.ready
  · simpa only [hcar, htx] using L.sends
  · exact fun e => by simpa only [(hentry e).1, hslot] using L.inFlight e
  · exact fun r => by simpa only [hpins, hslot] using L.pins r
  · simpa only [hslot] using L.slots
  · simpa only [hslot] using L.blank
  · simpa only [hslot] using L.frameBufs
  · simpa only [hslot] using L.mgmtBufs
  · exact fun b => claimLaw_of_view hv (L.claims b)

/-! ## The operations that leave it alone -/

variable (s : State)

@[simp] theorem updStation_lawView (i : StationNo) (f : StationRecord → StationRecord) :
    (s.updStation i f).lawView = s.lawView := rfl
@[simp] theorem updCounters_lawView (f : Counters → Counters) : (s.updCounters f).lawView = s.lawView := rfl
@[simp] theorem updNotices_lawView (f : NoticeUnit → NoticeUnit) : (s.updNotices f).lawView = s.lawView := rfl
@[simp] theorem raise_lawView (k : NodeNo) (w : Half) : (s.raise k w).lawView = s.lawView := rfl
@[simp] theorem writeStore_lawView (a : Nat) (bs : List Byte) : (s.writeStore a bs).lawView = s.lawView := rfl
@[simp] theorem writeMgmtBuffer_lawView (k : Fin 4) (bs : List Byte) :
    (s.writeMgmtBuffer k bs).lawView = s.lawView := rfl
@[simp] theorem pushClash_lawView (c : ClashEntry) : (s.pushClash c).lawView = s.lawView := rfl
@[simp] theorem popClash_lawView : s.popClash.lawView = s.lawView := rfl
@[simp] theorem readyRx_lawView : s.readyRx.lawView = s.lawView := rfl
@[simp] theorem countFrame_lawView : s.countFrame.lawView = s.lawView := rfl
@[simp] theorem countResponse_lawView : s.countResponse.lawView = s.lawView := rfl

@[simp] theorem updAgent_lawView {f : Agent → Agent} (hf : (f s.mga).pendingRecords = s.mga.pendingRecords) :
    (s.updAgent f).lawView = s.lawView := by
  simp only [lawView, LawView.mk.injEq]
  exact ⟨rfl, rfl, rfl, rfl, hf, rfl, rfl, rfl, rfl⟩

@[simp] theorem updEntry_lawView {e : EntryNo} {f : Entry → Entry}
    (hf : (f (s.entry e)).inFlight = (s.entry e).inFlight) (hh : (f (s.entry e)).holder = (s.entry e).holder) :
    (s.updEntry e f).lawView = s.lawView := by
  simp only [lawView, LawView.mk.injEq]
  refine ⟨rfl, funext fun n => ?_, rfl, rfl, rfl, rfl, rfl, rfl, rfl⟩
  by_cases hn : n = e
  · subst hn; simp [hf, hh]
  · simp [hn]

/-- A record's pins stay and so does its claim, with the length that a claim is for. -/
@[simp] theorem updRecord_lawView {r : RecordNo} {f : Record → Record} (hp : (f (s.record r)).pins = (s.record r).pins)
    (hc : (f (s.record r)).claim = (s.record r).claim)
    (hl : (f (s.record r)).length = (s.record r).length ∨ (s.record r).claim = none) :
    (s.updRecord r f).lawView = s.lawView := by
  simp only [lawView, LawView.mk.injEq]
  refine ⟨rfl, rfl, funext fun n => ?_, rfl, rfl, rfl, rfl, rfl, rfl⟩
  by_cases hn : n = r
  · subst hn
    rcases hl with hl | hl
    · simp [hp, hc, hl]
    · simp [hp, hc, hl]
  · simp [hn]

@[simp] theorem mirrorAgeTick_lawView : s.mirrorAgeTick.lawView = s.lawView := by
  simp only [lawView, LawView.mk.injEq]
  refine ⟨rfl, rfl, funext fun r => ?_, rfl, rfl, rfl, rfl, rfl, rfl⟩
  simp only [mirrorAgeTick_record, Record.tick]
  split <;> rfl

@[simp] theorem countHit_lawView (e : EntryNo) : (s.countHit e).lawView = s.lawView := by
  unfold countHit
  split <;> simp [Entry.countHit]

@[simp] theorem requestSuccess_lawView (st : Station) : (s.requestSuccess st).lawView = s.lawView := by
  unfold requestSuccess
  split <;> simp

@[simp] theorem requestFailure_lawView (x : Seg) (st : Station) : (s.requestFailure x st).lawView = s.lawView := by
  unfold requestFailure
  dsimp only
  repeat' split
  all_goals simp

@[simp] theorem probeSuccess_lawView (x : Seg) (i : StationNo) : (s.probeSuccess x i).lawView = s.lawView := by
  simp [probeSuccess]

@[simp] theorem judgeFreshness_lawView (r : RecordNo) : (s.judgeFreshness r).lawView = s.lawView := by
  unfold judgeFreshness
  split
  · rw [raise_lawView]
    exact updRecord_lawView s rfl rfl (.inl rfl)
  · rfl

end State
end Sys2Proof.Machine

/-! # PROOFS. Moves of slots between their places and the hand (O58, O59). -/

namespace Sys2Proof.Machine
namespace State

variable {B : Prop} {d d' : Option Seg} {h h' : List Tag} {s : State}

/-! ## What the laws give of one slot -/

/-- A slot in a place has the place's state and is not in hand. -/
theorem Laws.state_of_mem (L : s.Laws B d h) {t : Tag} {st : SlotState} (hst : st ≠ .free) (ht : t ∈ s.listOf st) :
    (s.slot t).state = st := L.places.state_of_mem hst ht

theorem Laws.queued (L : s.Laws B d h) {x : Seg} {t : Tag} (ht : t ∈ (s.seg x).queue) :
    (s.slot t).state = .queued := by
  refine L.state_of_mem (by decide) ?_
  cases x
  · exact List.mem_append_left _ ht
  · exact List.mem_append_right _ ht

theorem Laws.carried (L : s.Laws B d h) {x : Seg} {t : Tag} (ht : (s.seg x).carried = .slot t) :
    (s.slot t).state = .onWire := by
  refine L.state_of_mem (by decide) ?_
  cases x
  · exact List.mem_append_left _ (mem_carriedTags.2 ht)
  · exact List.mem_append_right _ (mem_carriedTags.2 ht)

theorem Laws.awaited (L : s.Laws B d h) {c : WaitingCommand} {t : Tag} (hc : s.waitOf c = some t) :
    (s.slot t).state = .waiting :=
  L.state_of_mem (by decide) (List.mem_map.2 ⟨_, (L.waits c t).1 hc, rfl⟩)

/-- A slot that is not on the segment side holds no claim. -/
theorem Laws.fillClaim_eq_false (L : s.Laws B d h) (b : B) {t : Tag}
    (ht : (s.slot t).state ≠ .queued ∧ (s.slot t).state ≠ .onWire) : (s.slot t).fillClaim = false := by
  obtain ⟨hflag, _, hside⟩ := L.claims b
  rw [Bool.eq_false_iff]
  intro hc
  obtain ⟨r, hr⟩ := (hflag t).1 hc
  exact (hside r t hr).1.elim ht.1 ht.2

/-! ## Changes of one segment controller -/

/-- A change that leaves the request table and the reply store as they are, with the slots that it takes in hand or
puts in their place. -/
theorem Laws.moves (L : s.Laws B d h) {t : State} (hort : t.ort = s.ort) (hrst : t.rst = s.rst)
    (hflight : ∀ e, (t.entry e).inFlight = (s.entry e).inFlight)
    (hplaces : Places t.listOf (fun v => (s.slot v).state) h')
    (hwaits : ∀ c v, t.waitOf c = some v ↔ { tag := v, command := c } ∈ t.mga.pendingRecords)
    (hsegs : ∀ x, (t.seg x).Lawful B) (hready : ∀ x, d' ≠ some x → (t.seg x).mayDispatch = false)
    (hsends : t.rtp.carries = .nothing ↔ t.rtp.txState ≠ .transmitting)
    (hblank : ∀ v, v ∈ h → v ∉ h' → (s.slot v).state ≠ .free) : t.Laws B d' h' := by
  have hslot (v) : t.slot v = s.slot v := by simp only [State.slot, hort]
  have hrecord (r) : t.record r = s.record r := by simp only [State.record, hrst]
  constructor
  · simpa only [hslot] using hplaces
  · exact hwaits
  · exact hsegs
  · exact hready
  · exact hsends
  · simpa only [hflight, hslot] using L.inFlight
  · simpa only [hrecord, hslot] using L.pins
  · simpa only [hslot] using L.slots
  · intro v hv hf
    rw [hslot] at hf ⊢
    exact L.blank v (fun hh => hblank v hh hv hf) hf
  · simpa only [hslot] using L.frameBufs
  · simpa only [hslot] using L.mgmtBufs
  · intro b
    simpa only [claimLaw, slotBuffer, hslot, hrecord, hort] using L.claims b

/-- The segments after a change of one. -/
theorem Laws.segs_updSeg (L : s.Laws B d h) {x : Seg} {f : Segment → Segment} (hlaw : (f (s.seg x)).Lawful B) (y : Seg) :
    ((s.updSeg x f).seg y).Lawful B := by
  by_cases hy : y = x
  · subst hy; simpa using hlaw
  · simpa [hy] using L.segs y

theorem Laws.ready_updSeg (L : s.Laws B d h) {x : Seg} {f : Segment → Segment} (hd : d = none ∨ d = some x)
    (hready : (f (s.seg x)).mayDispatch = false ∨ d' = some x) (y : Seg) (hy' : d' ≠ some y) :
    ((s.updSeg x f).seg y).mayDispatch = false := by
  by_cases hy : y = x
  · subst hy; simpa using hready.resolve_right hy'
  · have := L.ready y (by rcases hd with rfl | rfl <;> simp [Ne.symm hy])
    simpa [hy] using this

/-- A change of a segment controller, with the slots that it takes in hand or puts in their place. -/
theorem Laws.updSeg (L : s.Laws B d h) {x : Seg} {f : Segment → Segment}
    (hwait : (f (s.seg x)).waitingDisable = (s.seg x).waitingDisable) (hlaw : (f (s.seg x)).Lawful B)
    (hd : d = none ∨ d = some x) (hready : (f (s.seg x)).mayDispatch = false ∨ d' = some x)
    (hplaces : Places (s.updSeg x f).listOf (fun t => (s.slot t).state) h')
    (hblank : ∀ t, t ∈ h → t ∉ h' → (s.slot t).state ≠ .free) : (s.updSeg x f).Laws B d' h' := by
  have hwaits (c) : (s.updSeg x f).waitOf c = s.waitOf c := by
    cases c with
    | entryHold e => simp [waitOf]
    | segmentDisable y =>
      by_cases hy : y = x
      · subst hy; simpa [waitOf] using hwait
      · simp [waitOf, hy]
  refine L.moves (by simp) (by simp) (by simp) hplaces ?_ (L.segs_updSeg hlaw) (L.ready_updSeg hd hready)
    (by simpa using L.sends) hblank
  simpa only [hwaits, updSeg_mga] using L.waits

/-- The places after a change of a segment controller that keeps its queue and the slot it carries. -/
theorem listOf_updSeg {x : Seg} {f : Segment → Segment} (st : SlotState)
    (hq : st = .queued → (f (s.seg x)).queue = (s.seg x).queue)
    (hc : st = .onWire → (f (s.seg x)).carried.tags = (s.seg x).carried.tags) :
    (s.updSeg x f).listOf st = s.listOf st := by
  cases st
  case queued =>
    have hq := hq rfl
    cases x
    · exact congrArg (· ++ s.segB.queue) hq
    · exact congrArg (s.segA.queue ++ ·) hq
  case onWire =>
    have hc := hc rfl
    cases x
    · exact congrArg (· ++ s.segB.carried.tags) hc
    · exact congrArg (s.segA.carried.tags ++ ·) hc
  all_goals cases x <;> rfl

/-- A change of a segment controller that keeps its queue and the slot it carries. -/
theorem Laws.updSeg_stays (L : s.Laws B d h) {x : Seg} {f : Segment → Segment}
    (hwait : (f (s.seg x)).waitingDisable = (s.seg x).waitingDisable) (hlaw : (f (s.seg x)).Lawful B)
    (hd : d = none ∨ d = some x) (hready : (f (s.seg x)).mayDispatch = false ∨ d' = some x)
    (hqueue : (f (s.seg x)).queue = (s.seg x).queue)
    (hcarried : (f (s.seg x)).carried.tags = (s.seg x).carried.tags) : (s.updSeg x f).Laws B d' h := by
  refine L.updSeg hwait hlaw hd hready ?_ fun t ht ht' => absurd ht ht'
  rw [show (s.updSeg x f).listOf = s.listOf from
    funext fun st => listOf_updSeg st (fun _ => hqueue) (fun _ => hcarried)]
  exact L.places

/-- The slots at the front of a queue are taken in hand. -/
theorem Laws.takeQueued (L : s.Laws B d h) {x : Seg} {f : Segment → Segment} {l : List Tag}
    (hwait : (f (s.seg x)).waitingDisable = (s.seg x).waitingDisable) (hlaw : (f (s.seg x)).Lawful B)
    (hd : d = none ∨ d = some x) (hready : (f (s.seg x)).mayDispatch = false ∨ d' = some x)
    (hqueue : (s.seg x).queue = l ++ (f (s.seg x)).queue)
    (hcarried : (f (s.seg x)).carried.tags = (s.seg x).carried.tags) : (s.updSeg x f).Laws B d' (l ++ h) := by
  refine L.updSeg hwait hlaw hd hready ?_ fun t ht ht' => absurd (List.mem_append_right _ ht) ht'
  refine L.places.take (st := .queued) (by decide) ?_
    fun st hst => listOf_updSeg st (fun hq => absurd hq hst) (fun _ => hcarried)
  cases x
  · simp only [listOf, State.updSeg, State.seg] at hqueue ⊢
    rw [← List.append_assoc, ← hqueue]
  · simp only [listOf, State.updSeg, State.seg] at hqueue ⊢
    conv_lhs => rw [hqueue]
    exact List.perm_append_comm_assoc _ _ _

/-- A QUEUED slot in hand joins the tail of a queue. -/
theorem Laws.putQueued {t : Tag} (L : s.Laws B d (t :: h)) {x : Seg} {f : Segment → Segment}
    (hwait : (f (s.seg x)).waitingDisable = (s.seg x).waitingDisable) (hlaw : (f (s.seg x)).Lawful B)
    (hd : d = none ∨ d = some x) (hready : (f (s.seg x)).mayDispatch = false ∨ d' = some x)
    (ht : (s.slot t).state = .queued) (hqueue : (f (s.seg x)).queue = (s.seg x).queue ++ [t])
    (hcarried : (f (s.seg x)).carried.tags = (s.seg x).carried.tags) : (s.updSeg x f).Laws B d' h := by
  refine L.updSeg hwait hlaw hd hready ?_ fun v hv hv' => ?_
  · refine L.places.put (st := .queued) (by decide) ht ?_
      fun st hst => listOf_updSeg st (fun hq => absurd hq hst) (fun _ => hcarried)
    cases x
    · simp only [listOf, State.updSeg, State.seg] at hqueue ⊢
      rw [hqueue]
      simp [List.perm_middle]
    · simp only [listOf, State.updSeg, State.seg] at hqueue ⊢
      rw [hqueue, ← List.append_assoc]
      exact List.perm_append_singleton _ _
  · rcases List.mem_cons.1 hv with rfl | hv
    · simp [ht]
    · exact absurd hv hv'

/-- The slot that an engine carries is taken in hand. -/
theorem Laws.takeCarried (L : s.Laws B d h) {x : Seg} {f : Segment → Segment} {t : Tag}
    (hwait : (f (s.seg x)).waitingDisable = (s.seg x).waitingDisable) (hlaw : (f (s.seg x)).Lawful B)
    (hd : d = none ∨ d = some x) (hready : (f (s.seg x)).mayDispatch = false ∨ d' = some x)
    (hqueue : (f (s.seg x)).queue = (s.seg x).queue) (ht : (s.seg x).carried = .slot t)
    (hcarried : (f (s.seg x)).carried = .nothing) : (s.updSeg x f).Laws B d' (t :: h) := by
  refine L.updSeg hwait hlaw hd hready ?_ fun v hv hv' => absurd (List.mem_cons_of_mem _ hv) hv'
  refine L.places.take (l := [t]) (st := .onWire) (by decide) ?_
    fun st hst => listOf_updSeg st (fun _ => hqueue) (fun hq => absurd hq hst)
  cases x
  · simp only [listOf, State.updSeg, State.seg] at ht hcarried ⊢
    rw [ht, hcarried]
    exact .refl _
  · simp only [listOf, State.updSeg, State.seg] at ht hcarried ⊢
    rw [ht, hcarried]
    exact List.perm_append_comm_assoc _ [t] []

/-- An ON_WIRE slot in hand is carried by an engine that carried no slot. -/
theorem Laws.putCarried {t : Tag} (L : s.Laws B d (t :: h)) {x : Seg} {f : Segment → Segment}
    (hwait : (f (s.seg x)).waitingDisable = (s.seg x).waitingDisable) (hlaw : (f (s.seg x)).Lawful B)
    (hd : d = none ∨ d = some x) (hready : (f (s.seg x)).mayDispatch = false ∨ d' = some x)
    (hqueue : (f (s.seg x)).queue = (s.seg x).queue) (ht : (s.slot t).state = .onWire)
    (hnone : (s.seg x).carried = .nothing) (hcarried : (f (s.seg x)).carried = .slot t) :
    (s.updSeg x f).Laws B d' h := by
  refine L.updSeg hwait hlaw hd hready ?_ fun v hv hv' => ?_
  · refine L.places.put (st := .onWire) (by decide) ht ?_
      fun st hst => listOf_updSeg st (fun _ => hqueue) (fun hq => absurd hq hst)
    cases x
    · simp only [listOf, State.updSeg, State.seg] at hnone hcarried ⊢
      rw [hnone, hcarried]
      exact .refl _
    · simp only [listOf, State.updSeg, State.seg] at hnone hcarried ⊢
      rw [hnone, hcarried]
      exact List.perm_append_comm_assoc _ [t] []
  · rcases List.mem_cons.1 hv with rfl | hv
    · simp [ht]
    · exact absurd hv hv'

/-! ## Changes of the return path -/

/-- A change of the return path, with the slots that it takes in hand or puts in their place. -/
theorem Laws.updReturn (L : s.Laws B d h) {f : ReturnPath → ReturnPath}
    (hsends : (f s.rtp).carries = .nothing ↔ (f s.rtp).txState ≠ .transmitting)
    (hplaces : Places (s.updReturn f).listOf (fun t => (s.slot t).state) h')
    (hblank : ∀ t, t ∈ h → t ∉ h' → (s.slot t).state ≠ .free) : (s.updReturn f).Laws B d h' :=
  L.moves rfl rfl (fun _ => rfl) hplaces L.waits L.segs L.ready hsends hblank

theorem listOf_updReturn {f : ReturnPath → ReturnPath} (st : SlotState)
    (hq : st = .returning → (f s.rtp).queue = s.rtp.queue)
    (hc : st = .sending → (f s.rtp).carries.tags = s.rtp.carries.tags) :
    (s.updReturn f).listOf st = s.listOf st := by
  cases st
  case returning => exact hq rfl
  case sending => exact hc rfl
  all_goals rfl

/-- A change of the return path that keeps its queue and the slot in transmission. -/
theorem Laws.updReturn_stays (L : s.Laws B d h) {f : ReturnPath → ReturnPath}
    (hsends : (f s.rtp).carries = .nothing ↔ (f s.rtp).txState ≠ .transmitting)
    (hqueue : (f s.rtp).queue = s.rtp.queue) (hcarries : (f s.rtp).carries.tags = s.rtp.carries.tags) :
    (s.updReturn f).Laws B d h := by
  refine L.updReturn hsends ?_ fun t ht ht' => absurd ht ht'
  rw [show (s.updReturn f).listOf = s.listOf from
    funext fun st => listOf_updReturn st (fun _ => hqueue) (fun _ => hcarries)]
  exact L.places

/-- A RETURNING slot in hand joins the tail of the return queue. -/
theorem Laws.putReturning {t : Tag} (L : s.Laws B d (t :: h)) (ht : (s.slot t).state = .returning) :
    (s.updReturn (fun p => { p with queue := p.queue ++ [t] })).Laws B d h := by
  refine L.updReturn L.sends ?_ fun v hv hv' => ?_
  · exact L.places.put (st := .returning) (by decide) ht (List.perm_append_singleton _ _)
      fun st hst => listOf_updReturn st (fun hq => absurd hq hst) (fun _ => rfl)
  · rcases List.mem_cons.1 hv with rfl | hv
    · simp [ht]
    · exact absurd hv hv'

/-- The head of the return queue is taken in hand. -/
theorem Laws.takeReturning (L : s.Laws B d h) {t : Tag} {q : List Tag} (hq : s.rtp.queue = t :: q) :
    (s.updReturn (fun p => { p with queue := q })).Laws B d (t :: h) := by
  refine L.updReturn L.sends ?_ fun v hv hv' => absurd (List.mem_cons_of_mem _ hv) hv'
  refine L.places.take (l := [t]) (st := .returning) (by decide) ?_
    fun st hst => listOf_updReturn st (fun hq => absurd hq hst) (fun _ => rfl)
  rw [show s.listOf .returning = t :: q from hq]
  exact .refl _

/-- A SENDING slot in hand is carried by the transmitter, which carried nothing. -/
theorem Laws.putSending {t : Tag} (L : s.Laws B d (t :: h)) (ht : (s.slot t).state = .sending)
    (hnone : s.rtp.carries = .nothing) (frame : List Byte) :
    (s.updReturn (fun p => p.begin (.slot t) frame)).Laws B d h := by
  refine L.updReturn (by simp [ReturnPath.begin]) ?_ fun v hv hv' => ?_
  · refine L.places.put (st := .sending) (by decide) ht ?_
      fun st hst => listOf_updReturn st (fun _ => rfl) (fun hq => absurd hq hst)
    simp [listOf, ReturnPath.begin, hnone, TxCarried.tags]
  · rcases List.mem_cons.1 hv with rfl | hv
    · simp [ht]
    · exact absurd hv hv'

/-- The slot that the transmitter carries is taken in hand at the end of its frame. -/
theorem Laws.takeSending (L : s.Laws B d h) {t : Tag} (ht : s.rtp.carries = .slot t) :
    (s.updReturn ReturnPath.space).Laws B d (t :: h) := by
  refine L.updReturn (by simp [ReturnPath.space]) ?_ fun v hv hv' => absurd (List.mem_cons_of_mem _ hv) hv'
  refine L.places.take (l := [t]) (st := .sending) (by decide) ?_
    fun st hst => listOf_updReturn st (fun _ => rfl) (fun hq => absurd hq hst)
  simp [listOf, ReturnPath.space, ht, TxCarried.tags]

/-! ## The ends and beginnings of waits (R20, R95, R147, R157) -/

theorem waits_filter {w w' : WaitingCommand → Option Tag} {l : List PendingRecord} {c : WaitingCommand} {t : Tag}
    (hw : ∀ c v, w c = some v ↔ { tag := v, command := c } ∈ l) (hn : (l.map PendingRecord.tag).Nodup)
    (hc : w c = some t) (hw' : ∀ c', w' c' = if c' = c then none else w c') (c' : WaitingCommand) (v : Tag) :
    w' c' = some v ↔ { tag := v, command := c' } ∈ l.filter (fun p => p.tag ≠ t) := by
  have hone : ∀ c', { tag := t, command := c' } ∈ l → c' = c := fun c' hm =>
    congrArg PendingRecord.command (List.inj_on_of_nodup_map hn hm ((hw c t).1 hc) rfl)
  rw [hw', List.mem_filter, ← hw]
  by_cases he : c' = c
  · subst he
    simpa [hc] using fun h => Eq.symm h
  · have : w c' = some v → v ≠ t := by
      rintro h rfl
      exact he (hone c' ((hw c' v).1 h))
    simpa [he] using this

theorem waits_append {w w' : WaitingCommand → Option Tag} {l : List PendingRecord} {c : WaitingCommand} {t : Tag}
    (hw : ∀ c v, w c = some v ↔ { tag := v, command := c } ∈ l) (hc : w c = none)
    (hw' : ∀ c', w' c' = if c' = c then some t else w c') (c' : WaitingCommand) (v : Tag) :
    w' c' = some v ↔ { tag := v, command := c' } ∈ l ++ [{ tag := t, command := c }] := by
  rw [hw', List.mem_append, ← hw]
  by_cases he : c' = c
  · subst he
    simpa [hc] using ⟨Eq.symm, Eq.symm⟩
  · simp [he]

/-- The pending command records without those of one slot, which has one. -/
theorem tags_perm_filter {l : List PendingRecord} {t : Tag} (hn : (l.map PendingRecord.tag).Nodup)
    (ht : t ∈ l.map PendingRecord.tag) :
    (l.map PendingRecord.tag).Perm ([t] ++ (l.filter (fun p => p.tag ≠ t)).map PendingRecord.tag) := by
  have he : (l.filter (fun p => p.tag ≠ t)).map PendingRecord.tag = (l.map PendingRecord.tag).erase t := by
    rw [hn.erase_eq_filter, List.filter_map]
    congr 1
    exact List.filter_congr fun p _ => by simp [bne, Function.comp, beq_eq_decide]
  rw [he]
  exact List.perm_cons_erase ht

theorem listOf_updAgent {g : Agent → Agent} {st : SlotState} (hst : st ≠ .waiting) :
    (s.updAgent g).listOf st = s.listOf st := by
  cases st
  case waiting => exact absurd rfl hst
  all_goals rfl

/-- A WAITING slot is taken in hand: its pending command record is removed. -/
theorem Laws.takeWaiting (L : s.Laws B d h) {t : State} {c : WaitingCommand} {v : Tag} (hc : s.waitOf c = some v)
    (hlist : ∀ st, st ≠ .waiting → t.listOf st = s.listOf st)
    (hpend : t.mga.pendingRecords = s.mga.pendingRecords.filter (fun p => p.tag ≠ v)) :
    Places t.listOf (fun w => (s.slot w).state) (v :: h) := by
  refine L.places.take (l := [v]) (st := .waiting) (by decide) ?_ hlist
  rw [show t.listOf .waiting = _ from congrArg (List.map PendingRecord.tag) hpend]
  exact tags_perm_filter (L.places.nodup .waiting) (List.mem_map.2 ⟨_, (L.waits c v).1 hc, rfl⟩)

/-- A WAITING slot in hand gets its pending command record. -/
theorem Laws.putWaiting {v : Tag} (L : s.Laws B d (v :: h)) {t : State} (c : WaitingCommand)
    (hv : (s.slot v).state = .waiting) (hlist : ∀ st, st ≠ .waiting → t.listOf st = s.listOf st)
    (hpend : t.mga.pendingRecords = s.mga.pendingRecords ++ [{ tag := v, command := c }]) :
    Places t.listOf (fun w => (s.slot w).state) h := by
  refine L.places.put (st := .waiting) (by decide) hv ?_ hlist
  rw [show t.listOf .waiting = _ from congrArg (List.map PendingRecord.tag) hpend, List.map_append]
  exact List.perm_append_singleton _ _

/-- The block of an entry lets a waiting slot go. -/
theorem Laws.takeHolder (L : s.Laws B d h) {e : EntryNo} {f : Entry → Entry} {v : Tag}
    (hv : (s.entry e).holder = some v) (hflight : (f (s.entry e)).inFlight = (s.entry e).inFlight)
    (hnone : (f (s.entry e)).holder = none) :
    ((s.updEntry e f).updAgent
      (fun m => { m with pendingRecords := m.pendingRecords.filter (fun p => p.tag ≠ v) })).Laws B d (v :: h) := by
  have hc : s.waitOf (.entryHold e) = some v := hv
  refine L.moves rfl rfl (fun n => ?_) (L.takeWaiting hc (fun st hst => ?_) rfl)
    (waits_filter L.waits (L.places.nodup .waiting) hc fun c => ?_) L.segs L.ready L.sends
    fun w hw hw' => absurd (List.mem_cons_of_mem _ hw) hw'
  · by_cases hn : n = e
    · subst hn; simpa using hflight
    · simp [hn]
  · exact listOf_updAgent hst
  · cases c with
    | entryHold n =>
      by_cases hn : n = e
      · subst hn; simpa [waitOf] using hnone
      · simp [waitOf, hn]
    | segmentDisable x => simp [waitOf]

/-- A segment lets a waiting slot go. -/
theorem Laws.takeDisable (L : s.Laws B d h) {x : Seg} {f : Segment → Segment} {v : Tag}
    (hv : (s.seg x).waitingDisable = some v) (hnone : (f (s.seg x)).waitingDisable = none)
    (hlaw : (f (s.seg x)).Lawful B) (hd : d = none ∨ d = some x)
    (hready : (f (s.seg x)).mayDispatch = false ∨ d' = some x) (hqueue : (f (s.seg x)).queue = (s.seg x).queue)
    (hcarried : (f (s.seg x)).carried.tags = (s.seg x).carried.tags) :
    ((s.updSeg x f).updAgent
      (fun m => { m with pendingRecords := m.pendingRecords.filter (fun p => p.tag ≠ v) })).Laws B d' (v :: h) := by
  have hc : s.waitOf (.segmentDisable x) = some v := hv
  have hlist (st) : (s.updSeg x f).listOf st = s.listOf st := listOf_updSeg st (fun _ => hqueue) (fun _ => hcarried)
  refine L.moves (by simp) (by simp) (by simp) (L.takeWaiting hc (fun st hst => ?_) (by simp)) ?_
    (by simpa using L.segs_updSeg hlaw) (by simpa using L.ready_updSeg hd hready) (by simpa using L.sends)
    fun w hw hw' => absurd (List.mem_cons_of_mem _ hw) hw'
  · rw [listOf_updAgent hst, hlist]
  · have := waits_filter (w' := (s.updSeg x f).waitOf) L.waits (L.places.nodup .waiting) hc fun c => by
      cases c with
      | entryHold e => simp [waitOf]
      | segmentDisable y =>
        by_cases hy : y = x
        · subst hy; simpa [waitOf] using hnone
        · simp [waitOf, hy]
    intro c w
    rw [show ((s.updSeg x f).updAgent _).waitOf c = (s.updSeg x f).waitOf c from by cases c <;> rfl]
    simpa using this c w

/-- The block of an entry makes a slot wait. -/
theorem Laws.putHolder {v : Tag} (L : s.Laws B d (v :: h)) {e : EntryNo} {f : Entry → Entry}
    (hv : (s.slot v).state = .waiting) (hnone : (s.entry e).holder = none)
    (hflight : (f (s.entry e)).inFlight = (s.entry e).inFlight) (hf : (f (s.entry e)).holder = some v) :
    ((s.updEntry e f).updAgent
      (fun m => { m with pendingRecords := m.pendingRecords ++ [{ tag := v, command := .entryHold e }] })).Laws B d h := by
  refine L.moves rfl rfl (fun n => ?_) (L.putWaiting (.entryHold e) hv (fun st hst => ?_) rfl)
    (waits_append L.waits (c := .entryHold e) hnone fun c => ?_) L.segs L.ready L.sends fun w hw hw' => ?_
  · by_cases hn : n = e
    · subst hn; simpa using hflight
    · simp [hn]
  · exact listOf_updAgent hst
  · cases c with
    | entryHold n =>
      by_cases hn : n = e
      · subst hn; simpa [waitOf] using hf
      · simp [waitOf, hn]
    | segmentDisable x => simp [waitOf]
  · rcases List.mem_cons.1 hw with rfl | hw
    · simp [hv]
    · exact absurd hw hw'

/-- A segment makes a slot wait. -/
theorem Laws.putDisable {v : Tag} (L : s.Laws B d (v :: h)) {x : Seg} {f : Segment → Segment}
    (hv : (s.slot v).state = .waiting) (hnone : (s.seg x).waitingDisable = none)
    (hf : (f (s.seg x)).waitingDisable = some v) (hlaw : (f (s.seg x)).Lawful B) (hd : d = none ∨ d = some x)
    (hready : (f (s.seg x)).mayDispatch = false ∨ d' = some x) (hqueue : (f (s.seg x)).queue = (s.seg x).queue)
    (hcarried : (f (s.seg x)).carried.tags = (s.seg x).carried.tags) :
    ((s.updSeg x f).updAgent (fun m =>
      { m with pendingRecords := m.pendingRecords ++ [{ tag := v, command := .segmentDisable x }] })).Laws B d' h := by
  have hlist (st) : (s.updSeg x f).listOf st = s.listOf st := listOf_updSeg st (fun _ => hqueue) (fun _ => hcarried)
  refine L.moves (by simp) (by simp) (by simp) (L.putWaiting (.segmentDisable x) hv (fun st hst => ?_) (by simp)) ?_
    (by simpa using L.segs_updSeg hlaw) (by simpa using L.ready_updSeg hd hready) (by simpa using L.sends)
    fun w hw hw' => ?_
  · rw [listOf_updAgent hst, hlist]
  · have := waits_append (w' := (s.updSeg x f).waitOf) (c := .segmentDisable x) (t := v) L.waits hnone fun c => by
      cases c with
      | entryHold e => simp [waitOf]
      | segmentDisable y =>
        by_cases hy : y = x
        · subst hy; simpa [waitOf] using hf
        · simp [waitOf, hy]
    intro c w
    rw [show ((s.updSeg x f).updAgent _).waitOf c = (s.updSeg x f).waitOf c from by cases c <;> rfl]
    simpa using this c w
  · rcases List.mem_cons.1 hw with rfl | hw
    · simp [hv]
    · exact absurd hw hw'

end State
end Sys2Proof.Machine

/-! # PROOFS. Changes of slots, and what they hold (O58, O59). -/

namespace Sys2Proof.Machine

/-! ## Counts over a table -/

theorem countP_indexes_of_off {n : Nat} {p p' : Fin n → Bool} (t : Fin n) (hp : p t = false) (hp' : p' t = true)
    (ho : ∀ v, v ≠ t → p' v = p v) : (indexes n).countP p' = (indexes n).countP p + 1 := by
  have ht : t ∈ indexes n := List.mem_finRange t
  have hperm := List.perm_cons_erase ht
  have hrest : ((indexes n).erase t).countP p' = ((indexes n).erase t).countP p :=
    List.countP_congr fun v hv => by rw [ho v ((List.nodup_finRange n).mem_erase_iff.1 hv).1]
  rw [hperm.countP_eq, hperm.countP_eq, List.countP_cons, List.countP_cons, hrest]
  simp [hp, hp']

namespace State

variable {B : Prop} {d d' : Option Seg} {h h' : List Tag} {s : State}

/-! ## Changes of slots -/

/-- A change of slots that moves none. -/
theorem Laws.setSlots (L : s.Laws B d h) {t : State} (hlist : t.listOf = s.listOf) (hwait : t.waitOf = s.waitOf)
    (hseg : t.seg = s.seg) (hpend : t.mga.pendingRecords = s.mga.pendingRecords) (hrtp : t.rtp = s.rtp)
    (hstate : ∀ v, v ∉ h → (t.slot v).state = (s.slot v).state)
    (hslots : ∀ v, (t.slot v).Lawful B)
    (hblank : ∀ v, v ∉ h → s.slot v = {} → t.slot v = {})
    (hframe : ∀ v w k, (t.slot v).frameBuf = some k → (t.slot w).frameBuf = some k → w = v)
    (hmgmt : ∀ v w k, (t.slot v).mgmtBuf = some k → (t.slot w).mgmtBuf = some k → w = v)
    (hflight : ∀ e, (t.entry e).inFlight
      = (indexes 32).countP (fun v => (t.slot v).attached && decide ((t.slot v).entry = some e)))
    (hpins : ∀ r, (t.record r).pins = (indexes 32).countP (fun v => (t.slot v).reads r))
    (hclaims : B → t.claimLaw) : t.Laws B d h where
  places    := by rw [hlist]; exact L.places.restate hstate
  waits     := by rw [hwait, hpend]; exact L.waits
  segs      := by rw [hseg]; exact L.segs
  ready     := by rw [hseg]; exact L.ready
  sends     := by rw [hrtp]; exact L.sends
  inFlight  := hflight
  pins      := hpins
  slots     := hslots
  blank     := fun v hv hf => hblank v hv (L.blank v hv ((hstate v hv).symm.trans hf))
  frameBufs := hframe
  mgmtBufs  := hmgmt
  claims    := hclaims

/-- A free frame buffer is held by no slot (R47). -/
theorem frameBuf_ne_of_free {k : Fin 24} (hk : s.freeFrameBuf = some k) (v : Tag) : (s.slot v).frameBuf ≠ some k := by
  intro h
  have hk : s.frameBufHeld k = false := by simpa using List.find?_some hk
  have hv : s.slot v ∈ s.ort.slots.toList := by simp [State.slot]
  simp only [frameBufHeld, List.any_eq_false, decide_eq_true_eq] at hk
  exact hk _ hv h

/-- A free management buffer is held by no slot (R48). -/
theorem mgmtBuf_ne_of_free {k : Fin 4} (hk : s.freeMgmtBuf = some k) (v : Tag) : (s.slot v).mgmtBuf ≠ some k := by
  intro h
  have hk : s.mgmtBufHeld k = false := by simpa using List.find?_some hk
  have hv : s.slot v ∈ s.ort.slots.toList := by simp [State.slot]
  simp only [mgmtBufHeld, List.any_eq_false, decide_eq_true_eq] at hk
  exact hk _ hv h

/-- What a change of one slot asks of it, but for its in-flight count, its pin and its claim: its state changes in hand
only, and a buffer that it takes is free. -/
structure SlotChange (B : Prop) (h : List Tag) (s : State) (t : Tag) (new : Slot) : Prop where
  state    : t ∈ h ∨ new.state = (s.slot t).state ∧ new.state ≠ .free
  lawful   : new.Lawful B
  frameBuf : ∀ k, new.frameBuf = some k → (s.slot t).frameBuf = some k ∨ ∀ w, (s.slot w).frameBuf ≠ some k
  mgmtBuf  : ∀ k, new.mgmtBuf = some k → (s.slot t).mgmtBuf = some k ∨ ∀ w, (s.slot w).mgmtBuf ≠ some k

/-- A buffer is held once, when the one slot that changes takes a buffer that it held or that was free. -/
theorem heldOnce_of_set {α : Type} {f f' : Tag → Option α} {v : Tag} {b : Option α}
    (hset : ∀ w, f' w = if w = v then b else f w) (honce : ∀ a c k, f a = some k → f c = some k → c = a)
    (hnew : ∀ k, b = some k → f v = some k ∨ ∀ w, f w ≠ some k) (a c : Tag) (k : α) (ha : f' a = some k)
    (hc : f' c = some k) : c = a := by
  have hheld {w : Tag} (hw : w ≠ v) (hb : b = some k) : f w ≠ some k := by
    rcases hnew k hb with hv | hfree
    · exact fun hk => hw (honce v w k hv hk)
    · exact hfree w
  rw [hset] at ha hc
  by_cases hav : a = v
  · by_cases hcv : c = v
    · rw [hav, hcv]
    · rw [if_pos hav] at ha
      rw [if_neg hcv] at hc
      exact absurd hc (hheld hcv ha)
  · rw [if_neg hav] at ha
    by_cases hcv : c = v
    · rw [if_pos hcv] at hc
      exact absurd ha (hheld hav hc)
    · rw [if_neg hcv] at hc
      exact honce a c k ha hc

/-- A change of one slot, with the in-flight count and the pin count that go with it. -/
theorem Laws.setSlot (L : s.Laws B d h) {t : State} {v : Tag} {new : Slot} (hlist : t.listOf = s.listOf)
    (hwait : t.waitOf = s.waitOf) (hseg : t.seg = s.seg) (hpend : t.mga.pendingRecords = s.mga.pendingRecords)
    (hrtp : t.rtp = s.rtp) (hslot : ∀ w, t.slot w = if w = v then new else s.slot w) (hnew : s.SlotChange B h v new)
    (hflight : ∀ e, (t.entry e).inFlight
      = (indexes 32).countP (fun w => (t.slot w).attached && decide ((t.slot w).entry = some e)))
    (hpins : ∀ r, (t.record r).pins = (indexes 32).countP (fun w => (t.slot w).reads r))
    (hclaims : B → t.claimLaw) : t.Laws B d h := by
  have hself : t.slot v = new := by rw [hslot, if_pos rfl]
  have hother (w) (hw : w ≠ v) : t.slot w = s.slot w := by rw [hslot, if_neg hw]
  refine L.setSlots hlist hwait hseg hpend hrtp (fun w hw => ?_) (fun w => ?_) (fun w hw hb => ?_)
    (heldOnce_of_set (f := fun w => (s.slot w).frameBuf) (b := new.frameBuf) (fun w => ?_) L.frameBufs hnew.frameBuf)
    (heldOnce_of_set (f := fun w => (s.slot w).mgmtBuf) (b := new.mgmtBuf) (fun w => ?_) L.mgmtBufs hnew.mgmtBuf)
    hflight hpins hclaims
  · by_cases he : w = v
    · subst he; rw [hself]; exact (hnew.state.resolve_left hw).1
    · rw [hother w he]
  · by_cases he : w = v
    · subst he; rw [hself]; exact hnew.lawful
    · rw [hother w he]; exact L.slots w
  · by_cases he : w = v
    · subst he
      obtain ⟨hsame, hne⟩ := hnew.state.resolve_left hw
      exact absurd (hsame.trans (by rw [hb])) hne
    · rw [hother w he, hb]
  · rw [hslot]; split <;> rfl
  · rw [hslot]; split <;> rfl

/-- The in-flight counts, when the changed slot is attached as it was. -/
theorem Laws.inFlight_of_slot (L : s.Laws B d h) {t : State} {v : Tag} {new : Slot}
    (hslot : ∀ w, t.slot w = if w = v then new else s.slot w) (hentry : ∀ e, (t.entry e).inFlight = (s.entry e).inFlight)
    (hatt : new.attached = (s.slot v).attached) (hent : (s.slot v).attached = true → new.entry = (s.slot v).entry)
    (e : EntryNo) : (t.entry e).inFlight
      = (indexes 32).countP (fun w => (t.slot w).attached && decide ((t.slot w).entry = some e)) := by
  rw [hentry, L.inFlight]
  refine List.countP_congr fun w _ => ?_
  rw [hslot]
  by_cases hw : w = v
  · subst hw
    cases ha : (s.slot w).attached with
    | false => simp [hatt, ha]
    | true => simp [hatt, ha, hent ha]
  · rw [if_neg hw]

/-- The pin counts, when the changed slot reads what it did. -/
theorem Laws.pins_of_slot (L : s.Laws B d h) {t : State} {v : Tag} {new : Slot}
    (hslot : ∀ w, t.slot w = if w = v then new else s.slot w) (hrec : ∀ r, (t.record r).pins = (s.record r).pins)
    (hreads : ∀ r, new.reads r = (s.slot v).reads r) (r : RecordNo) :
    (t.record r).pins = (indexes 32).countP (fun w => (t.slot w).reads r) := by
  rw [hrec, L.pins]
  refine List.countP_congr fun w _ => ?_
  rw [hslot]
  by_cases hw : w = v
  · subst hw; simp [hreads]
  · rw [if_neg hw]

/-- A change of one slot that is attached and reads as before. -/
theorem Laws.updSlot (L : s.Laws B d h) {v : Tag} {f : Slot → Slot} (hnew : s.SlotChange B h v (f (s.slot v)))
    (hatt : (f (s.slot v)).attached = (s.slot v).attached)
    (hent : (s.slot v).attached = true → (f (s.slot v)).entry = (s.slot v).entry)
    (hreads : ∀ r, (f (s.slot v)).reads r = (s.slot v).reads r) (hclaims : B → (s.updSlot v f).claimLaw) :
    (s.updSlot v f).Laws B d h := by
  have hslot (w) : (s.updSlot v f).slot w = if w = v then f (s.slot v) else s.slot w := by
    rw [updSlot_slot]
    by_cases hw : w = v <;> simp [hw]
  have hseg : (s.updSlot v f).seg = s.seg := funext fun x => by simp
  exact L.setSlot (funext fun st => by cases st <;> rfl) (funext fun c => by cases c <;> simp [waitOf]) hseg rfl rfl hslot
    hnew (L.inFlight_of_slot hslot (fun _ => rfl) hatt hent) (L.pins_of_slot hslot (fun _ => rfl) hreads) hclaims

/-! ## Claims under a change of one slot (R70) -/

theorem slotBuffer_congr {t : State} {v : Tag} (hf : (t.slot v).frameBuf = (s.slot v).frameBuf)
    (hb : t.ort.frameBuffers = s.ort.frameBuffers) : t.slotBuffer v = s.slotBuffer v := by
  simp only [slotBuffer, hf, hb]

/-- A slot that holds no claim changes, and holds none. -/
theorem claimLaw_of_unclaimed {t : State} (hc : s.claimLaw) {v : Tag}
    (hother : ∀ w, w ≠ v → t.slot w = s.slot w) (hrec : ∀ r, (t.record r).claim = (s.record r).claim)
    (hlen : ∀ r, (t.record r).length = (s.record r).length) (hbuf : t.ort.frameBuffers = s.ort.frameBuffers)
    (hold : (s.slot v).fillClaim = false) (hnew : (t.slot v).fillClaim = false) : t.claimLaw := by
  obtain ⟨hflag, hone, hside⟩ := hc
  have hnone (r) : (s.record r).claim ≠ some v := fun hr => by simp [(hflag v).2 ⟨r, hr⟩] at hold
  refine ⟨fun w => ?_, fun a b w => by simpa only [hrec] using hone a b w, fun r w hr => ?_⟩
  · simp only [hrec]
    by_cases hw : w = v
    · subst hw; simp [hnew, hnone]
    · rw [hother w hw]; exact hflag w
  · rw [hrec] at hr
    have hw : w ≠ v := fun he => hnone r (he ▸ hr)
    rw [hother w hw, hlen, slotBuffer_congr (by rw [hother w hw]) hbuf]
    exact hside r w hr

/-- A slot that stays on the segment side keeps its claim, if it holds one. -/
theorem claimLaw_of_kept {t : State} (hc : s.claimLaw) {v : Tag} (hother : ∀ w, w ≠ v → t.slot w = s.slot w)
    (hrst : t.rst = s.rst) (hbuf : t.ort.frameBuffers = s.ort.frameBuffers)
    (hfill : (t.slot v).fillClaim = (s.slot v).fillClaim) (hfun : (t.slot v).function = (s.slot v).function)
    (hlen : (t.slot v).reqLen = (s.slot v).reqLen) (hfb : (t.slot v).frameBuf = (s.slot v).frameBuf)
    (hside : (t.slot v).state = .queued ∨ (t.slot v).state = .onWire) : t.claimLaw := by
  obtain ⟨hflag, hone, hs⟩ := hc
  have hrec (r) : t.record r = s.record r := by simp only [State.record, hrst]
  refine ⟨fun w => ?_, fun a b w => by simpa only [hrec] using hone a b w, fun r w hr => ?_⟩
  · simp only [hrec, ← hflag]
    by_cases hw : w = v
    · subst hw; rw [hfill]
    · rw [hother w hw]
  · rw [hrec] at hr ⊢
    by_cases hw : w = v
    · subst hw
      refine ⟨hside, ?_⟩
      rw [hfun, hlen, slotBuffer_congr hfb hbuf]
      exact (hs r w hr).2
    · rw [slotBuffer_congr (by rw [hother w hw]) hbuf, hother w hw]
      exact hs r w hr

end State
end Sys2Proof.Machine

/-! # PROOFS. Claims, buffers, entries and answers under the laws (O58, O59). -/

namespace Sys2Proof.Machine
namespace State

variable {B : Prop} {d d' : Option Seg} {h h' : List Tag} {s : State}

/-! ## The fill claims (R70 to R72) -/

theorem dropClaim_claimLaw (hc : s.claimLaw) (r : RecordNo) : (s.dropClaim r).claimLaw := by
  obtain ⟨hflag, hone, hside⟩ := hc
  have hclaim (n v) : ((s.dropClaim r).record n).claim = some v ↔ n ≠ r ∧ (s.record n).claim = some v := by
    rw [dropClaim_record]
    by_cases hn : n = r <;> simp [hn]
  have hbuf (v) : (s.dropClaim r).slotBuffer v = s.slotBuffer v := by
    refine slotBuffer_congr ?_ (by simp)
    rw [dropClaim_slot]; split <;> rfl
  refine ⟨fun v => ?_, fun a b v ha hb => hone a b v ((hclaim a v).1 ha).2 ((hclaim b v).1 hb).2, fun n v hn => ?_⟩
  · simp only [hclaim, dropClaim_slot]
    split
    · next hr =>
      refine ⟨fun h => by simp at h, ?_⟩
      rintro ⟨n, hne, hn⟩
      exact absurd (hone n r v hn hr) hne
    · next hr =>
      rw [hflag]
      exact ⟨fun ⟨n, hn⟩ => ⟨n, fun he => hr (he ▸ hn), hn⟩, fun ⟨n, _, hn⟩ => ⟨n, hn⟩⟩
  · obtain ⟨hne, hn⟩ := (hclaim n v).1 hn
    rw [hbuf, dropClaim_slot, dropClaim_record, if_neg hne]
    split
    · exact hside n v hn
    · exact hside n v hn

/-- A slot after a claim is dropped: but for the flag it is as it was. -/
theorem dropClaim_slot_flag (r : RecordNo) (v : Tag) :
    ∃ b, (s.dropClaim r).slot v = { s.slot v with fillClaim := b } ∧ (b = true → (s.slot v).fillClaim = true) := by
  rw [dropClaim_slot]
  split
  · exact ⟨false, rfl, by simp⟩
  · exact ⟨_, rfl, id⟩

/-- A change of claim flags and claims only. -/
theorem Laws.setClaims (L : s.Laws B d h) {t : State} (hlist : t.listOf = s.listOf) (hwait : t.waitOf = s.waitOf)
    (hseg : t.seg = s.seg) (hpend : t.mga.pendingRecords = s.mga.pendingRecords) (hrtp : t.rtp = s.rtp)
    (hflight : ∀ e, (t.entry e).inFlight = (s.entry e).inFlight) (hpins : ∀ r, (t.record r).pins = (s.record r).pins)
    (hslot : ∀ v, ∃ b, t.slot v = { s.slot v with fillClaim := b })
    (hblank : ∀ v, s.slot v = {} → t.slot v = {}) (hclaims : B → t.claimLaw) : t.Laws B d h := by
  have hstate (v) : (t.slot v).state = (s.slot v).state := by obtain ⟨b, hb⟩ := hslot v; rw [hb]
  have hframe (v) : (t.slot v).frameBuf = (s.slot v).frameBuf := by obtain ⟨b, hb⟩ := hslot v; rw [hb]
  have hmgmt (v) : (t.slot v).mgmtBuf = (s.slot v).mgmtBuf := by obtain ⟨b, hb⟩ := hslot v; rw [hb]
  have hatt (v) : (t.slot v).attached = (s.slot v).attached := by obtain ⟨b, hb⟩ := hslot v; rw [hb]
  have hent (v) : (t.slot v).entry = (s.slot v).entry := by obtain ⟨b, hb⟩ := hslot v; rw [hb]
  have hreads (v r) : (t.slot v).reads r = (s.slot v).reads r := by obtain ⟨b, hb⟩ := hslot v; rw [hb]; rfl
  refine L.setSlots hlist hwait hseg hpend hrtp (fun v _ => hstate v) (fun v => ?_) (fun v _ => hblank v)
    (by simpa only [hframe] using L.frameBufs) (by simpa only [hmgmt] using L.mgmtBufs)
    (by simpa only [hflight, hatt, hent] using L.inFlight) (by simpa only [hpins, hreads] using L.pins) hclaims
  obtain ⟨b, hb⟩ := hslot v
  rw [hb]
  exact { L.slots v with }

theorem dropClaim_laws (L : s.Laws B d h) (r : RecordNo) : (s.dropClaim r).Laws B d h := by
  refine L.setClaims (funext fun st => ?_) (funext fun c => ?_) (funext fun x => by simp) (by simp) (by simp)
    (fun e => by simp) (fun n => ?_) (fun v => ?_) (fun v hv => ?_) fun b => dropClaim_claimLaw (L.claims b) r
  · cases st <;> simp [listOf]
  · cases c <;> simp [waitOf]
  · rw [dropClaim_record]; split <;> rfl
  · obtain ⟨b, hb, _⟩ := s.dropClaim_slot_flag r v
    exact ⟨b, hb⟩
  · rw [dropClaim_slot, hv]; split <;> rfl

theorem takeClaim_slot (r : RecordNo) (t v : Tag) :
    (s.takeClaim r t).slot v = if v = t then { s.slot t with fillClaim := true } else (s.dropClaim r).slot v := by
  by_cases hv : v = t
  · subst hv
    obtain ⟨b, hb, _⟩ := s.dropClaim_slot_flag r v
    simp [takeClaim, hb]
  · simp [takeClaim, hv]

theorem takeClaim_record (r : RecordNo) (t : Tag) (n : RecordNo) :
    (s.takeClaim r t).record n = if n = r then { s.record r with claim := some t } else s.record n := by
  by_cases hn : n = r
  · subst hn; simp [takeClaim, dropClaim_record]
  · simp [takeClaim, dropClaim_record, hn]

/-- The claim law, when a QUEUED slot that holds no claim takes one (R69, R70). -/
theorem takeClaim_claimLaw (hlaw : s.claimLaw) {r : RecordNo} {t : Tag} (hst : (s.slot t).state = .queued)
    (hfree : (s.slot t).fillClaim = false)
    (hfor : (s.slot t).function = 1 ∧ (s.slot t).reqLen.toNat = (s.record r).length
      ∨ (s.slot t).function = 2 ∧ (s.record r).length ≤ (s.slotBuffer t).length) :
    (s.takeClaim r t).claimLaw := by
  obtain ⟨hflag, hone, hside⟩ := dropClaim_claimLaw hlaw r
  have hnone (n) : ((s.dropClaim r).record n).claim ≠ some t := by
    intro hn
    obtain ⟨b, hb, himp⟩ := s.dropClaim_slot_flag r t
    have hset := (hflag t).2 ⟨n, hn⟩
    rw [hb] at hset
    rw [himp hset] at hfree
    cases hfree
  have hclaim (n v) : ((s.takeClaim r t).record n).claim = some v
      ↔ n = r ∧ v = t ∨ ((s.dropClaim r).record n).claim = some v := by
    rw [takeClaim_record, dropClaim_record]
    by_cases hn : n = r <;> simp [hn, eq_comm]
  have hbuf (v) : (s.takeClaim r t).slotBuffer v = s.slotBuffer v := by
    refine slotBuffer_congr ?_ (by simp)
    rw [takeClaim_slot, dropClaim_slot]
    by_cases hv : v = t
    · rw [if_pos hv, hv]
    · rw [if_neg hv]; split <;> rfl
  refine ⟨fun v => ?_, fun a c v ha hc => ?_, fun n v hn => ?_⟩
  · rw [takeClaim_slot]
    by_cases hv : v = t
    · subst hv; simp [hclaim]
    · simp [hclaim, hv, hflag]
  · rcases (hclaim a v).1 ha with ⟨rfl, rfl⟩ | ha'
    · rcases (hclaim c v).1 hc with ⟨rfl, _⟩ | hc'
      · rfl
      · exact absurd hc' (hnone c)
    · rcases (hclaim c v).1 hc with ⟨rfl, rfl⟩ | hc'
      · exact absurd ha' (hnone a)
      · exact hone a c v ha' hc'
  · rw [hbuf, takeClaim_slot, takeClaim_record]
    rcases (hclaim n v).1 hn with ⟨rfl, rfl⟩ | hn'
    · rw [if_pos rfl, if_pos rfl]
      exact ⟨.inl hst, hfor⟩
    · have hnr : n ≠ r := by
        rintro rfl
        rw [dropClaim_record, if_pos rfl] at hn'
        cases hn'
      rw [if_neg fun he : v = t => hnone n (he ▸ hn'), if_neg hnr]
      have hs := hside n v hn'
      rwa [dropClaim_record, if_neg hnr, show (s.dropClaim r).slotBuffer v = s.slotBuffer v from
        slotBuffer_congr (by rw [dropClaim_slot]; split <;> rfl) (by simp)] at hs

/-- A QUEUED slot that holds no claim takes one (R69, R70). -/
theorem takeClaim_laws (L : s.Laws B d h) {r : RecordNo} {t : Tag} (hst : (s.slot t).state = .queued)
    (hfree : (s.slot t).fillClaim = false)
    (hfor : (s.slot t).function = 1 ∧ (s.slot t).reqLen.toNat = (s.record r).length
      ∨ (s.slot t).function = 2 ∧ (s.record r).length ≤ (s.slotBuffer t).length) :
    (s.takeClaim r t).Laws B d h := by
  refine L.setClaims (funext fun st => ?_) (funext fun c => ?_) (funext fun x => by simp) (by simp) (by simp)
    (fun e => by simp) (fun n => ?_) (fun v => ?_) (fun v hv => ?_)
    fun b => takeClaim_claimLaw (L.claims b) hst hfree hfor
  · cases st <;> simp [listOf]
  · cases c <;> simp [waitOf]
  · rw [takeClaim_record]
    split
    · next hn => rw [hn]
    · rfl
  · rw [takeClaim_slot]
    split
    · next hv => exact ⟨true, by rw [hv]⟩
    · obtain ⟨b, hb, _⟩ := s.dropClaim_slot_flag r v
      exact ⟨b, hb⟩
  · have hvt : v ≠ t := by
      rintro rfl
      rw [hv] at hst
      cases hst
    rw [takeClaim_slot, if_neg hvt, dropClaim_slot, hv]
    split <;> rfl

/-- The record that a slot holds the claim of, if any. -/
theorem claims_of_claimLaw (hc : s.claimLaw) (t : Tag) : ∃ c, s.claims t c := by
  obtain ⟨hflag, hone, _⟩ := hc
  cases hf : (s.slot t).fillClaim with
  | false =>
    exact ⟨none, hf, fun n => ⟨fun hn => by simp [(hflag t).2 ⟨n, hn⟩] at hf, fun h => by cases h⟩⟩
  | true =>
    obtain ⟨r, hr⟩ := (hflag t).1 hf
    exact ⟨some r, hf, fun n => ⟨fun hn => congrArg some (hone r n t hr hn), fun h => by cases h; exact hr⟩⟩

theorem fill_laws (L : s.Laws B d h) (t : Tag) (r : RecordNo) : (s.fill t r).Laws B d h :=
  (dropClaim_laws (L.of_view (t := (s.writeStore _ _).updRecord r Record.validate)
    (updRecord_lawView _ rfl rfl (.inl rfl))) r).of_view rfl

theorem settleClaim_laws (L : s.Laws B d h) (t : Tag) (st : Status) : (s.settleClaim t st).Laws B d h := by
  unfold settleClaim
  repeat' split
  · exact L
  · exact fill_laws L t _
  · exact (dropClaim_laws L _).of_view rfl
  · exact dropClaim_laws L _

theorem releaseClaim_laws (L : s.Laws B d h) (t : Tag) : (s.releaseClaim t).Laws B d h := by
  unfold releaseClaim
  split
  · exact L
  · exact dropClaim_laws L _

/-- The settling of a claim changes flags of claims only, and clears that of its slot. -/
theorem settleClaim_slot_flag (t v : Tag) (st : Status) :
    ∃ b, (s.settleClaim t st).slot v = { s.slot v with fillClaim := b } ∧ (s.claimLaw → v = t → b = false) := by
  have hdrop (r) (hr : s.claimedRecord t = some r) :
      ∃ b, (s.dropClaim r).slot v = { s.slot v with fillClaim := b } ∧ (s.claimLaw → v = t → b = false) := by
    obtain ⟨b, hb, _⟩ := s.dropClaim_slot_flag r v
    refine ⟨b, hb, fun hc hv => ?_⟩
    obtain ⟨c, hcl⟩ := claims_of_claimLaw hc t
    have hclaim : (s.record r).claim = some v := by
      rw [hv]; exact (hcl.2 r).2 (by rw [← claimedRecord_of_claims hcl, hr])
    have := congrArg Slot.fillClaim hb
    rw [dropClaim_slot, if_pos hclaim] at this
    exact this.symm
  unfold settleClaim
  split
  · next hn =>
    refine ⟨(s.slot v).fillClaim, rfl, fun hc hv => ?_⟩
    obtain ⟨c, hcl⟩ := claims_of_claimLaw hc t
    rw [claimedRecord_of_claims hcl] at hn
    rw [hv, hcl.1, hn]; rfl
  · next r hr =>
    have hfill : (s.fill t r).slot v = (s.dropClaim r).slot v := by
      simp [fill, dropClaim_slot, Record.validate]
    split
    · split
      · rw [hfill]; exact hdrop r hr
      · exact hdrop r hr
    · exact hdrop r hr

theorem releaseClaim_eq_settleClaim_slot (t v : Tag) :
    ∃ b, (s.releaseClaim t).slot v = { s.slot v with fillClaim := b } ∧ (s.claimLaw → v = t → b = false) := by
  have := s.settleClaim_slot_flag t v .absent
  simpa [settleClaim, releaseClaim, fills] using this

/-! ## Answers (R29, R58, R113) -/

end State

/-- A slot that may be answered: it is on no entry's account, is not answered yet and holds no claim. -/
structure Slot.Unanswered (B : Prop) (sl : Slot) : Prop where
  attached : sl.attached = false
  source   : sl.source = none
  claim    : B → sl.fillClaim = false

/-- The slot of an answer, as its laws ask. -/
theorem Slot.answered_lawful {B : Prop} {sl : Slot} {st : Status} {rs : Reason} {src : PayloadSource} (hs : sl.Unanswered B)
    (hbuf : B → ∀ n, src = .buffer n → sl.frameBuf.isSome = true)
    (hmgmt : B → ∀ n, src = .management n → sl.mgmtBuf.isSome = true) : (sl.answered st rs src).Lawful B where
  attached := fun ha => by simp [Slot.answered, hs.attached] at ha
  sourced := fun _ => .inl rfl
  buffered := fun _ hst => by simp [Slot.answered] at hst
  answered := fun b _ => ⟨rfl, rfl, rfl, fun n hn => hbuf b n (Option.some.inj hn),
    fun n hn => hmgmt b n (Option.some.inj hn)⟩

namespace State

variable {B : Prop} {d d' : Option Seg} {h h' : List Tag} {s : State}

theorem Laws.unanswered_of_waiting (L : s.Laws B d h) {t : Tag} (ht : (s.slot t).state = .waiting) :
    (s.slot t).Unanswered B where
  attached := Bool.eq_false_iff.2 fun ha => by simpa [ht] using ((L.slots t).attached ha).2
  source := Option.not_isSome_iff_eq_none.1 fun ha => by simpa [ht] using (L.slots t).sourced ha
  claim := fun b => L.fillClaim_eq_false b (by simp [ht])

theorem respond_laws {t : Tag} {st : Status} {rs : Reason} {src : PayloadSource} (L : s.Laws B d (t :: h))
    (hs : (s.slot t).Unanswered B) (hrec : ∀ r o n, src ≠ .record r o n)
    (hbuf : B → ∀ n, src = .buffer n → (s.slot t).frameBuf.isSome = true)
    (hmgmt : B → ∀ n, src = .management n → (s.slot t).mgmtBuf.isSome = true) :
    (s.respond t st rs src).Laws B d h := by
  have L' : (s.updSlot t (fun sl => sl.answered st rs src)).Laws B d (t :: h) := by
    refine L.updSlot ⟨.inl (by simp), Slot.answered_lawful hs hbuf hmgmt, fun k hk => .inl hk, fun k hk => .inl hk⟩ rfl
      (fun _ => rfl) (fun r => ?_) fun b => ?_
    · simp only [Slot.reads, hs.source, Slot.answered]
      cases src
      case record m o n => exact absurd rfl (hrec m o n)
      all_goals rfl
    · exact claimLaw_of_unclaimed (v := t) (L.claims b) (fun w hw => by simp [hw]) (fun _ => rfl) (fun _ => rfl) rfl
        (hs.claim b) (by simpa [Slot.answered] using hs.claim b)
  exact L'.putReturning (by simp [Slot.answered])

/-- An answer with no payload. -/
theorem respond_none_laws {t : Tag} {st : Status} {rs : Reason} (L : s.Laws B d (t :: h))
    (hs : (s.slot t).Unanswered B) : (s.respond t st rs .none).Laws B d h :=
  respond_laws L hs (by simp) (by simp) (by simp)

/-- An answer from a record pins it (R58). -/
theorem answerBytes_laws {t : Tag} {r : RecordNo} {o n : Nat} (L : s.Laws B d (t :: h))
    (hs : (s.slot t).Unanswered B) : (s.answerBytes t r o n).Laws B d h := by
  unfold answerBytes
  split
  · exact respond_none_laws L hs
  · have L' : ((s.updRecord r (fun rc => { rc with pins := rc.pins + 1 })).updSlot t
        (fun sl => sl.answered .done .none (.record r o n))).Laws B d (t :: h) := by
      have hslot (w) : ((s.updRecord r (fun rc => { rc with pins := rc.pins + 1 })).updSlot t
          (fun sl => sl.answered .done .none (.record r o n))).slot w
          = if w = t then (s.slot t).answered .done .none (.record r o n) else s.slot w := by
        by_cases hw : w = t <;> simp [hw]
      refine L.setSlot (funext fun st => by cases st <;> rfl) (funext fun c => by cases c <;> simp [waitOf])
        (funext fun x => by simp) rfl rfl hslot
        ⟨.inl (by simp), Slot.answered_lawful hs (by simp) (by simp), fun k hk => .inl hk, fun k hk => .inl hk⟩
        (L.inFlight_of_slot hslot (fun _ => rfl) rfl (fun _ => rfl)) (fun m => ?_) fun b => ?_
      · have hold (m) : (s.slot t).reads m = false := by simp [Slot.reads, hs.source]
        have hother (w) (hw : w ≠ t) : (((s.updRecord r (fun rc => { rc with pins := rc.pins + 1 })).updSlot t
            (fun sl => sl.answered .done .none (.record r o n))).slot w).reads m = (s.slot w).reads m := by
          rw [hslot, if_neg hw]
        by_cases hm : m = r
        · subst hm
          rw [countP_indexes_of_off (p := fun w => (s.slot w).reads m) t (hold m)
            (by rw [hslot, if_pos rfl]; simp [Slot.reads, Slot.answered]) hother, ← L.pins]
          simp
        · rw [show State.record _ m = s.record m by simp [hm], L.pins]
          refine List.countP_congr fun w _ => ?_
          by_cases hw : w = t
          · subst hw; rw [hslot, if_pos rfl, hold]; simp [Slot.reads, Slot.answered, Ne.symm hm]
          · rw [hother w hw]
      · refine claimLaw_of_unclaimed (v := t) (L.claims b) (fun w hw => by simp [hw]) (fun m => ?_) (fun m => ?_) rfl
          (hs.claim b) (by simpa [Slot.answered] using hs.claim b)
        · rw [updSlot_record, updRecord_record]; split <;> rfl
        · rw [updSlot_record, updRecord_record]; split <;> rfl
    exact L'.putReturning (by simp [Slot.answered])

theorem capture_laws {q : Request} {v : List Byte} (L : s.Laws B d (q.tag :: h)) (hs : (s.slot q.tag).Unanswered B) :
    (s.capture q v).Laws B d h := by
  unfold capture
  dsimp only
  split
  · exact respond_none_laws L hs
  · exact respond_none_laws L hs
  · next bs k _ hk =>
    refine respond_laws (L.of_view (s.writeMgmtBuffer_lawView k _)) hs (by simp) (by simp) fun _ n _ => ?_
    rw [writeMgmtBuffer_slot, hk]; rfl

/-! ## Departures (R12, R14, R18, R21) -/

/-- The end of a pending quiesce: its slot is answered. -/
theorem completeQuiesce_laws (L : s.Laws B d h) (e : EntryNo) : (s.completeQuiesce e).Laws B d h := by
  cases hv : (s.entry e).holder with
  | none => rwa [completeQuiesce_none _ hv]
  | some v =>
    rw [completeQuiesce_some _ hv]
    have L' := L.takeHolder (f := fun en => { en with holder := none }) hv rfl rfl
    exact respond_none_laws L' (L'.unanswered_of_waiting (L.awaited (c := .entryHold e) hv))

/-- The slots attached to an entry, one less. -/
theorem detach_laws (L : s.Laws B d h) {t : Tag} {e : EntryNo} (ht : (s.slot t).attachedEntry = some e)
    (o : Option Status) :
    ((s.updSlot t (fun sl => { sl with attached := false })).updEntry e (fun en => en.depart o)).Laws B d h := by
  have hatt : (s.slot t).attached = true ∧ (s.slot t).entry = some e := by
    unfold Slot.attachedEntry at ht
    split at ht
    · next ha => exact ⟨ha, ht⟩
    · cases ht
  have hstate := ((L.slots t).attached hatt.1).2
  have hslot (w) : ((s.updSlot t (fun sl => { sl with attached := false })).updEntry e (fun en => en.depart o)).slot w
      = if w = t then { s.slot t with attached := false } else s.slot w := by
    by_cases hw : w = t <;> simp [hw]
  refine L.setSlot (funext fun st => by cases st <;> rfl) (funext fun c => ?_) (funext fun x => by simp) rfl rfl hslot
    ⟨.inr ⟨rfl, fun hf => ?_⟩, { L.slots t with attached := fun ha => by cases ha }, fun k hk => .inl hk,
      fun k hk => .inl hk⟩ (fun n => ?_) (L.pins_of_slot hslot (fun _ => rfl) (fun _ => rfl)) fun b => ?_
  · cases c with
    | entryHold n => by_cases hn : n = e <;> simp [waitOf, hn, Entry.depart]
    | segmentDisable x => simp [waitOf]
  · rcases hstate with hq | hq <;> rw [hq] at hf <;> cases hf
  · by_cases hn : n = e
    · subst hn
      have hflight : _ = _ + 1 := (L.inFlight n).trans (countP_indexes_of_off
        (p := fun w => (((s.updSlot t (fun sl => { sl with attached := false })).updEntry n (fun en => en.depart o)).slot
          w).attached && decide ((((s.updSlot t (fun sl => { sl with attached := false })).updEntry n
            (fun en => en.depart o)).slot w).entry = some n)) t (by simp [hslot]) (by simp [hatt]) fun w hw => by
          simp only [hslot, if_neg hw])
      rw [updEntry_entry, if_pos rfl, updSlot_entry, Entry.depart, hflight]
      rfl
    · rw [updEntry_entry, if_neg hn, updSlot_entry, L.inFlight]
      refine List.countP_congr fun w _ => ?_
      rw [hslot]
      by_cases hw : w = t
      · subst hw; simp [hatt.2, Ne.symm hn]
      · rw [if_neg hw]
  · exact claimLaw_of_kept (v := t) (L.claims b) (fun w hw => by rw [hslot, if_neg hw]) rfl rfl (by simp) (by simp)
      (by simp) (by simp) (by simpa using hstate)

/-- An attached slot after the first four steps of its departure: detached, with the entry's decrement, its HOLD and
the event of that (R14). -/
def detached (s : State) (t : Tag) (e : EntryNo) (o : Option Status) : State :=
  if o.any (s.entry e).newlyHeld then
    ((s.updSlot t (fun sl => { sl with attached := false })).updEntry e (fun en => en.depart o)).raise nodeEntryHeld
      (halfNat e)
  else (s.updSlot t (fun sl => { sl with attached := false })).updEntry e (fun en => en.depart o)

theorem leaveEntry_of_attached {t : Tag} {e : EntryNo} {o : Option Status} (h : (s.slot t).attachedEntry = some e) :
    s.leaveEntry t o = if ((s.detached t e o).entry e).inFlight = 0 then (s.detached t e o).completeQuiesce e
      else s.detached t e o := by
  simp only [leaveEntry, h]
  rfl

theorem leaveEntry_of_unattached {t : Tag} {o : Option Status} (h : (s.slot t).attachedEntry = none) :
    s.leaveEntry t o = s := by
  simp [leaveEntry, h]

theorem leaveEntry_laws (L : s.Laws B d h) (t : Tag) (o : Option Status) : (s.leaveEntry t o).Laws B d h := by
  cases he : (s.slot t).attachedEntry with
  | none => rwa [leaveEntry_of_unattached he]
  | some e =>
    have L1 : (s.detached t e o).Laws B d h := by
      unfold detached
      split
      · exact (detach_laws L he o).of_view rfl
      · exact detach_laws L he o
    rw [leaveEntry_of_attached he]
    split
    · exact completeQuiesce_laws L1 e
    · exact L1

/-- The slot that leaves is detached from its entry. -/
theorem Laws.leaveEntry_slot (L : s.Laws B d h) (t : Tag) (o : Option Status) :
    (s.leaveEntry t o).slot t = { s.slot t with attached := false } := by
  have hne : ∀ w, s.quiesced t = some w → w ≠ t := by
    rintro w hw rfl
    unfold quiesced Slot.attachedEntry at hw
    split at hw
    · cases hw
    · next e he =>
      split at he
      · next ha =>
        split at hw
        · have := L.awaited (c := .entryHold e) hw
          rcases ((L.slots w).attached ha).2 with hq | hq <;> rw [hq] at this <;> cases this
        · cases hw
      · cases he
  rw [(s.leaveEntry_effect rfl hne).1, if_pos rfl, s.detached_slot fun ha => ((L.slots t).attached ha).1]

/-- A slot on the segment side that has left its entry and its claim may be answered. -/
theorem Laws.unanswered_of_departed (L : s.Laws B d h) {t : Tag} {u : State} (b : Bool)
    (ht : (s.slot t).state = .queued ∨ (s.slot t).state = .onWire)
    (hu : u.slot t = { s.slot t with attached := false, fillClaim := b }) (hb : B → b = false) :
    (u.slot t).Unanswered B := by
  rw [hu]
  exact ⟨rfl, Option.not_isSome_iff_eq_none.1 fun hs => by
    rcases ht with ht | ht <;> simpa [ht] using (L.slots t).sourced hs, hb⟩

/-- A slot in hand is turned away (R80, R95). -/
theorem turnAway_laws {t : Tag} (L : s.Laws B d (t :: h)) (ht : (s.slot t).state = .queued) (st : Status) :
    (s.turnAway t st).Laws B d h := by
  have L1 := leaveEntry_laws L t none
  obtain ⟨b, hslot, hb⟩ := (s.leaveEntry t none).releaseClaim_eq_settleClaim_slot t t
  rw [L.leaveEntry_slot t none] at hslot
  exact respond_none_laws (releaseClaim_laws L1 t)
    (L.unanswered_of_departed b (.inl ht) hslot fun b' => hb (L1.claims b') rfl)

/-- The outcome of a transaction whose slot is in hand (R88). -/
theorem handOn_laws {t : Tag} (L : s.Laws B d (t :: h)) (ht : (s.slot t).state = .onWire)
    {o : Status × Reason × PayloadSource} (ho : o.2.2 = .none ∨ ∃ n, o.2.2 = .buffer n) : (s.handOn t o).Laws B d h := by
  have L1 := leaveEntry_laws L t (some o.1)
  obtain ⟨b, hslot, hb⟩ := (s.leaveEntry t (some o.1)).settleClaim_slot_flag t t o.1
  rw [L.leaveEntry_slot t (some o.1)] at hslot
  refine respond_laws (settleClaim_laws L1 t o.1)
    (L.unanswered_of_departed b (.inr ht) hslot fun b' => hb (L1.claims b') rfl) (fun r a n hr => ?_)
    (fun b' n _ => ?_) fun _ n hn => ?_
  · rcases ho with ho | ⟨m, ho⟩ <;> rw [ho] at hr <;> cases hr
  · rw [hslot]; exact ((L.slots t).buffered b' (.inr ht)).1
  · rcases ho with ho | ⟨m, ho⟩ <;> rw [ho] at hn <;> cases hn

end State
end Sys2Proof.Machine

/-! # PROOFS. The forward path, the dispatch and the outcomes under the laws (O58, O59). -/

namespace Sys2Proof.Machine
namespace State

variable {B : Prop} {d d' : Option Seg} {h h' : List Tag} {s : State}

/-! ## A request takes its slot (R26, R36) -/

/-- A FREE slot is taken in hand. -/
theorem Laws.takeFree (L : s.Laws B d h) {t : Tag} (ht : (s.slot t).state = .free) (hh : t ∉ h) :
    s.Laws B d (t :: h) :=
  L.moves rfl rfl (fun _ => rfl) (L.places.takeFree ht hh) L.waits L.segs L.ready L.sends
    fun _ hv hv' => absurd (List.mem_cons_of_mem _ hv) hv'

/-- A FREE slot that holds nothing is put back. -/
theorem Laws.putFree {t : Tag} (L : s.Laws B d (t :: h)) (ht : s.slot t = {}) : s.Laws B d h :=
  { L with
    places := L.places.putFree (by rw [ht])
    blank := fun v hv hf => by
      by_cases he : v = t
      · rw [he, ht]
      · exact L.blank v (by simp [he, hv]) hf }

theorem occupiedSlot_unanswered (q : Request) (o : Origin) (e : Option EntryNo) :
    (occupiedSlot q o e).Unanswered B := ⟨rfl, rfl, fun _ => rfl⟩

theorem occupiedSlot_lawful (q : Request) (o : Origin) (e : Option EntryNo) : (occupiedSlot q o e).Lawful B where
  attached := fun h => by cases h
  sourced := fun h => by cases h
  buffered := fun _ h => by rcases h with h | h <;> cases h
  answered := fun _ h => by rcases h with h | h <;> cases h

/-- A request takes the FREE slot of its tag in hand. -/
theorem occupy_laws (L : s.Laws B d h) {q : Request} (ht : (s.slot q.tag).state = .free) (hh : q.tag ∉ h) (o : Origin)
    (e : Option EntryNo) : (s.occupy q o e).Laws B d (q.tag :: h) := by
  have hempty := L.blank q.tag hh ht
  refine (L.takeFree ht hh).updSlot ⟨.inl (by simp), occupiedSlot_lawful q o e, fun _ hk => (nomatch hk),
    fun _ hk => (nomatch hk)⟩ (by rw [hempty]; rfl) (fun ha => by rw [hempty] at ha; cases ha)
    (fun r => by rw [hempty]; rfl) fun b => ?_
  exact claimLaw_of_unclaimed (v := q.tag) (L.claims b) (fun w hw => by simp [hw]) (fun _ => rfl) (fun _ => rfl) rfl
    (by rw [hempty]) (by simp [occupiedSlot])

/-- A request that is answered at once (R29). -/
theorem answer_laws (L : s.Laws B d h) {q : Request} (ht : (s.slot q.tag).state = .free) (hh : q.tag ∉ h) (o : Origin)
    (e : Option EntryNo) (st : Status) (rs : Reason) : ((s.occupy q o e).respond q.tag st rs .none).Laws B d h :=
  respond_none_laws (occupy_laws L ht hh o e) (by simpa using occupiedSlot_unanswered q o e)

theorem occupyMgmt_laws (L : s.Laws B d h) {q : Request} (ht : (s.slot q.tag).state = .free) (hh : q.tag ∉ h)
    {k : Fin 4} (hk : s.freeMgmtBuf = some k) : (s.occupyMgmt q k).Laws B d (q.tag :: h) := by
  refine (occupy_laws L ht hh .management none).updSlot ⟨.inl (by simp), ?_, fun k' hk' => .inl hk', fun k' hk' => ?_⟩ rfl
    (fun _ => rfl) (fun _ => rfl) fun b => ?_
  · simpa using { occupiedSlot_lawful (B := B) q .management none with
      answered := fun _ h => by rcases h with h | h <;> cases h }
  · cases hk'
    refine .inr fun w => ?_
    rw [occupy_slot]
    split
    · simp [occupiedSlot]
    · exact mgmtBuf_ne_of_free hk w
  · exact claimLaw_of_unclaimed (v := q.tag) ((occupy_laws L ht hh .management none).claims b)
      (fun w hw => by simp [hw]) (fun _ => rfl) (fun _ => rfl) rfl (by simp [occupiedSlot]) (by simp [occupiedSlot])

/-! ## The forward path (R40 to R45) -/

/-- A write of the start of a frame buffer leaves it as long or longer (R47). -/
theorem length_le_writeFrameBuffer (k : Fin 24) (bs : List Byte) (v : Tag) :
    (s.slotBuffer v).length ≤ ((s.writeFrameBuffer k bs).slotBuffer v).length := by
  simp only [slotBuffer, writeFrameBuffer_slot]
  cases (s.slot v).frameBuf with
  | none => simp
  | some j =>
    simp only [writeFrameBuffer_get]
    split
    · simp; omega
    · exact le_refl _

theorem writeFrameBuffer_laws (L : s.Laws B d h) (k : Fin 24) (bs : List Byte) :
    (s.writeFrameBuffer k bs).Laws B d h := by
  refine L.setSlots (funext fun st => by cases st <;> rfl) (funext fun c => by cases c <;> simp [waitOf])
    (funext fun x => by simp) rfl rfl (fun _ _ => rfl) L.slots (fun _ _ h => h) L.frameBufs L.mgmtBufs L.inFlight L.pins
    fun b => ?_
  obtain ⟨hflag, hone, hside⟩ := L.claims b
  refine ⟨hflag, hone, fun r t hr => ?_⟩
  obtain ⟨hst, hfor⟩ := hside r t hr
  exact ⟨hst, hfor.imp_right fun ⟨hf, hl⟩ => ⟨hf, hl.trans (length_le_writeFrameBuffer k bs t)⟩⟩

/-- The slots attached to an entry, one more (R11). -/
theorem attach_laws (L : s.Laws B d h) {t : Tag} {e : EntryNo} (ht : (s.slot t).state = .queued)
    (ha : (s.slot t).attached = false) (he : (s.slot t).entry = some e) : (s.attach t e).Laws B d h := by
  have hslot (w) : (s.attach t e).slot w = if w = t then { s.slot t with attached := true } else s.slot w := by
    by_cases hw : w = t <;> simp [attach, hw]
  refine L.setSlot (funext fun st => by cases st <;> rfl) (funext fun c => ?_) (funext fun x => by simp [attach]) rfl rfl
    hslot ⟨.inr ⟨rfl, by simp [ht]⟩, { L.slots t with attached := fun _ => ⟨by simp [he], .inl ht⟩ },
      fun k hk => .inl hk, fun k hk => .inl hk⟩ (fun n => ?_)
    (L.pins_of_slot hslot (fun _ => by simp [attach]) (fun _ => rfl)) fun b => ?_
  · cases c with
    | entryHold n => by_cases hn : n = e <;> simp [waitOf, attach, hn]
    | segmentDisable x => simp [waitOf, attach]
  · by_cases hn : n = e
    · subst hn
      rw [countP_indexes_of_off (p := fun w => (s.slot w).attached && decide ((s.slot w).entry = some n)) t
        (by simp [ha]) (by simp [hslot, he]) fun w hw => by simp only [hslot, if_neg hw], ← L.inFlight]
      simp [attach]
    · rw [show ((s.attach t e).entry n).inFlight = (s.entry n).inFlight by simp [attach, hn], L.inFlight]
      refine List.countP_congr fun w _ => ?_
      rw [hslot]
      by_cases hw : w = t
      · subst hw; simp [ha, he, Ne.symm hn]
      · rw [if_neg hw]
  · exact claimLaw_of_kept (v := t) (L.claims b) (fun w hw => by rw [hslot, if_neg hw]) rfl rfl (by simp [hslot])
      (by simp [hslot]) (by simp [hslot]) (by simp [hslot]) (by simp [hslot, ht])

/-- A queued forward of a MIRROR record acts on it (R45 step 5, R68, R69). -/
theorem mirrorQueued_laws (L : s.Laws B d h) {q : Request} (r : RecordNo) (hst : (s.slot q.tag).state = .queued)
    (hfree : (s.slot q.tag).fillClaim = false) (hfun : (s.slot q.tag).function = q.function)
    (hlen : (s.slot q.tag).reqLen = q.reqLen) (hbuf : q.payload.length ≤ (s.slotBuffer q.tag).length) :
    (s.mirrorQueued r q).Laws B d h := by
  have L' : (s.updRecord r Record.invalidate).Laws B d h := L.of_view (updRecord_lawView s rfl rfl (.inl rfl))
  unfold mirrorQueued
  split
  · next hread =>
    split
    · next hc => exact takeClaim_laws L hst hfree (.inl ⟨by rw [hfun, hread]; rfl, by rw [hlen]; exact hc.2.2.2⟩)
    · exact L
  · split
    · next hwrite =>
      split
      · next hc =>
        refine takeClaim_laws L' hst hfree (.inr ⟨by rw [updRecord_slot, hfun, hwrite]; rfl, ?_⟩)
        rw [updRecord_record, if_pos rfl]
        exact hc.2 ▸ hbuf
      · exact dropClaim_laws L' r
    · split
      · exact dropClaim_laws L' r
      · exact L

/-- The forward's slot in its queue, before its entry's account (R45). -/
def queuedSlot (q : Request) (e : Option EntryNo) (x : Seg) (k : Fin 24) : Slot :=
  { occupiedSlot q (forwardOrigin e) e with state := .queued, segment := some x, frameBuf := some k }

/-- The forward in its queue, before its entry's account (R45). -/
def queueUp (s : State) (q : Request) (e : Option EntryNo) (x : Seg) (k : Fin 24) : State :=
  (((s.occupy q (forwardOrigin e) e).updSlot q.tag (fun sl =>
      { sl with state := .queued, segment := some x, frameBuf := some k })).writeFrameBuffer k
        q.payload).updSeg x (fun g => { g with queue := g.queue ++ [q.tag] })

theorem enqueue_eq (s : State) (q : Request) (e : Option EntryNo) (x : Seg) (k : Fin 24) :
    s.enqueue q e x k = (s.queueUp q e x k).onAccount q e := rfl

theorem queueUp_slot (q : Request) (e : Option EntryNo) (x : Seg) (k : Fin 24) (v : Tag) :
    (s.queueUp q e x k).slot v = if v = q.tag then queuedSlot q e x k else s.slot v := by
  by_cases hv : v = q.tag <;> simp [queueUp, queuedSlot, hv]

theorem queueUp_buffer (q : Request) (e : Option EntryNo) (x : Seg) (k j : Fin 24) :
    (s.queueUp q e x k).ort.frameBuffers[j] = if j = k then q.payload ++ (s.ort.frameBuffers[j]).drop q.payload.length
      else s.ort.frameBuffers[j] := by
  unfold queueUp
  simp only [updSeg_ort]
  exact writeFrameBuffer_get _ k j q.payload

theorem queueUp_laws (L : s.Laws B none h) {q : Request} {e : Option EntryNo} {x : Seg} {k : Fin 24}
    (ht : (s.slot q.tag).state = .free) (hh : q.tag ∉ h) (h127 : q.station ≠ 127) (hk : s.freeFrameBuf = some k)
    (hx : (s.seg x).segState = .enabled) : (s.queueUp q e x k).Laws B (some x) h := by
  have L1 := occupy_laws L ht hh (forwardOrigin e) e
  have L2 : ((s.occupy q (forwardOrigin e) e).updSlot q.tag (fun sl =>
      { sl with state := .queued, segment := some x, frameBuf := some k })).Laws B none (q.tag :: h) := by
    refine L1.updSlot ⟨.inl (by simp), ?_, fun j hj => .inr fun w => ?_, fun j hj => .inl hj⟩ rfl (fun _ => rfl)
      (fun _ => rfl) fun b => ?_
    · rw [occupy_slot, if_pos rfl]
      exact { occupiedSlot_lawful (B := B) q (forwardOrigin e) e with
        attached := fun ha => by cases ha
        sourced := fun ha => by cases ha
        buffered := fun _ _ => ⟨rfl, h127⟩
        answered := fun _ hs => by rcases hs with hs | hs <;> cases hs }
    · cases hj
      rw [occupy_slot]
      split
      · simp [occupiedSlot]
      · exact frameBuf_ne_of_free hk w
    · exact claimLaw_of_unclaimed (v := q.tag) (L1.claims b) (fun w hw => by simp [hw]) (fun _ => rfl) (fun _ => rfl) rfl
        (by simp [occupiedSlot]) (by simp [occupiedSlot])
  have L3 := writeFrameBuffer_laws L2 k q.payload
  refine L3.putQueued rfl ?_ (.inl rfl) (.inr rfl) (by simp) rfl rfl
  have G := L3.segs x
  exact { G with rests := fun hne => absurd (by simpa using hx) hne }

theorem onAccount_laws (L : s.Laws B d h) {q : Request} {e : Option EntryNo} {x : Seg} {k : Fin 24}
    (hslot : s.slot q.tag = queuedSlot q e x k) (hbuf : q.payload.length ≤ (s.slotBuffer q.tag).length) :
    (s.onAccount q e).Laws B d h := by
  cases e with
  | none => exact L
  | some e =>
    have L' : (s.attach q.tag e).Laws B d h := attach_laws L (by rw [hslot]; rfl) (by rw [hslot]; rfl) (by rw [hslot]; rfl)
    have hslot' : (s.attach q.tag e).slot q.tag = { queuedSlot q (some e) x k with attached := true } := by
      simp [attach, hslot]
    simp only [onAccount]
    split
    · exact L'
    · next r _ =>
      refine mirrorQueued_laws L' r (by rw [hslot']; rfl) (by rw [hslot']; rfl) (by rw [hslot']; rfl) (by rw [hslot']; rfl) ?_
      rwa [slotBuffer_congr (s := s) (t := s.attach q.tag e) (by rw [hslot', hslot]) rfl]

theorem enqueue_laws (L : s.Laws B none h) {q : Request} {e : Option EntryNo} {x : Seg} {k : Fin 24}
    (ht : (s.slot q.tag).state = .free) (hh : q.tag ∉ h) (h127 : q.station ≠ 127) (hk : s.freeFrameBuf = some k)
    (hx : (s.seg x).segState = .enabled) : (s.enqueue q e x k).Laws B (some x) h := by
  rw [enqueue_eq]
  refine onAccount_laws (x := x) (k := k) (queueUp_laws L ht hh h127 hk hx) (by simp [queueUp_slot]) ?_
  have hfb : ((s.queueUp q e x k).slot q.tag).frameBuf = some k := by simp [queueUp_slot, queuedSlot]
  simp only [slotBuffer, hfb, queueUp_buffer, if_pos]
  simp

end State
end Sys2Proof.Machine

/-! # PROOFS. The dispatch, the engines and the transmitter under the laws (O58, O59). -/

namespace Sys2Proof.Machine
namespace State

variable {B : Prop} {d d' : Option Seg} {h h' : List Tag} {s : State}

/-! ## The dispatch (R79, R80, R92) -/

theorem Laws.weaken (L : s.Laws B none h) (x : Seg) : s.Laws B (some x) h :=
  { L with ready := fun y _ => L.ready y (by simp) }

theorem Laws.strengthen {x : Seg} (L : s.Laws B (some x) h) (hx : (s.seg x).mayDispatch = false) : s.Laws B none h :=
  { L with
    ready := fun y _ => by
      by_cases hy : y = x
      · rw [hy]; exact hx
      · exact L.ready y (by simpa using Ne.symm hy) }

theorem mayDispatch_of_busy {g : Segment} (hg : g.engine ≠ .idle) : g.mayDispatch = false := by
  simp [Segment.mayDispatch, hg]

theorem mayDispatch_of_rest {g : Segment} (hd : g.probeDue = false) (hq : g.queue = []) : g.mayDispatch = false := by
  simp [Segment.mayDispatch, hd, hq]

theorem mayDispatch_of_off {g : Segment} (hg : g.segState ≠ .enabled) : g.mayDispatch = false := by
  simp [Segment.mayDispatch, hg]

/-- A controller that is not DISABLED begins to send (R78). -/
theorem lawful_send {g : Segment} (G : g.Lawful B) (hg : g.segState ≠ .disabled) {c : Carried} (hc : c ≠ .nothing)
    (frame : List Byte) : (g.send c frame).Lawful B :=
  { G with
    off := fun he => absurd he hg
    idle := fun he => by cases he
    busy := fun _ => hc
    timed := fun _ he => by cases he
    failed := fun _ _ he => by cases he }

/-- A QUEUED slot in hand begins its transaction (R81). -/
theorem beginTransaction_laws {x : Seg} {t : Tag} (L : s.Laws B (some x) (t :: h)) (ht : (s.slot t).state = .queued)
    (hx : (s.seg x).segState = .enabled) (hi : (s.seg x).engine = .idle) : (s.beginTransaction x t).Laws B none h := by
  have L1 : (s.updSlot t (fun sl => { sl with state := .onWire, attempts := 1 })).Laws B (some x) (t :: h) := by
    have hl := L.slots t
    refine L.updSlot ⟨.inl (by simp), ?_, fun k hk => .inl hk, fun k hk => .inl hk⟩ rfl (fun _ => rfl) (fun _ => rfl)
      fun b => ?_
    · exact {
        attached := fun ha => ⟨(hl.attached ha).1, .inr rfl⟩
        sourced := fun hs => by simpa [ht] using hl.sourced hs
        buffered := fun b _ => hl.buffered b (.inl ht)
        answered := fun _ hs => by rcases hs with hs | hs <;> cases hs }
    · exact claimLaw_of_kept (v := t) (L.claims b) (fun w hw => by simp [hw]) rfl rfl (by simp) (by simp) (by simp)
        (by simp) (by simp)
  have hseg : (s.updSlot t (fun sl => { sl with state := .onWire, attempts := 1 })).seg x = s.seg x := by simp
  refine L1.putCarried rfl ?_ (.inr rfl) (.inl (mayDispatch_of_busy (by simp [Segment.count, Segment.send]))) rfl
    (by simp) (by rw [hseg]; exact (L.segs x).idle hi) rfl
  rw [hseg]
  exact { lawful_send (L.segs x) (c := .slot t) (by simp [hx]) (by simp) [] with }

/-- The queue head is taken, by an IDLE engine with no probe due (R80). -/
theorem takeHead_laws {x : Seg} {q : List Tag} (L : s.Laws B (some x) h) (hq : (s.seg x).queue = q)
    (hi : (s.seg x).engine = .idle) (he : (s.seg x).segState = .enabled) (hd : (s.seg x).probeDue = false) :
    (State.takeHead x q s).Laws B none h := by
  induction q generalizing s with
  | nil =>
    simp only [State.takeHead]
    rw [updSeg_self s (by rw [← hq])]
    exact L.strengthen (mayDispatch_of_rest hd hq)
  | cons t q ih =>
    have L1 : (s.updSeg x (fun g => { g with queue := q })).Laws B (some x) (t :: h) := by
      refine L.takeQueued (l := [t]) rfl ?_ (.inr rfl) (.inr rfl) hq rfl
      exact { L.segs x with rests := fun hne => absurd he hne }
    have ht : (s.slot t).state = .queued := L.queued (x := x) (by simp [hq])
    simp only [State.takeHead]
    split
    · exact ih (turnAway_laws L1 (by simpa using ht) .absent) (by simp) (by simpa using hi) (by simpa using he)
        (by simpa using hd)
    · exact beginTransaction_laws L1 (by simpa using ht) (by simpa using he) (by simpa using hi)

theorem dispatch_laws {x : Seg} (L : s.Laws B (some x) h) : (s.dispatch x).Laws B none h := by
  unfold dispatch
  dsimp only
  split
  · next hm =>
    obtain ⟨⟨hi, he⟩, _⟩ : ((s.seg x).engine = .idle ∧ (s.seg x).segState = .enabled) ∧ _ := by
      simpa [Segment.mayDispatch] using hm
    split
    · have L1 : (s.updSeg x (fun g => { g with probeDue := false })).Laws B (some x) h := by
        refine L.updSeg_stays rfl ?_ (.inr rfl) (.inr rfl) rfl rfl
        exact { L.segs x with rests := fun hne => absurd he hne }
      split
      · next i _ =>
        have G := L1.segs x
        have hnone := G.idle (by simpa using hi)
        refine L1.updSeg_stays rfl ?_ (.inr rfl) (.inl (mayDispatch_of_busy (by simp [Segment.send]))) rfl ?_
        · exact { lawful_send G (c := .probe i) (by simp [he]) (by simp) [] with }
        · rw [hnone]; rfl
      · exact takeHead_laws L1 rfl (by simpa using hi) (by simpa using he) (by simp)
    · next hd => exact takeHead_laws L rfl hi he (by simpa using hd)
  · next hm => exact L.strengthen (by simpa using hm)

/-- With no dispatch left to make, a dispatch makes none. -/
theorem dispatch_laws_none (L : s.Laws B none h) (x : Seg) : (s.dispatch x).Laws B none h := dispatch_laws (L.weaken x)

/-! ## A departure and the change of a segment controller commute -/

theorem completeQuiesce_updSeg (s : State) (x : Seg) (f : Segment → Segment) (e : EntryNo) :
    (s.updSeg x f).completeQuiesce e = (s.completeQuiesce e).updSeg x f := by
  unfold completeQuiesce
  rw [updSeg_entry]
  cases x <;> cases (s.entry e).holder <;> rfl

theorem detached_updSeg (s : State) (x : Seg) (f : Segment → Segment) (t : Tag) (e : EntryNo) (o : Option Status) :
    (s.updSeg x f).detached t e o = (s.detached t e o).updSeg x f := by
  unfold detached
  rw [updSeg_entry]
  split <;> cases x <;> rfl

theorem leaveEntry_updSeg (s : State) (x : Seg) (f : Segment → Segment) (t : Tag) (o : Option Status) :
    (s.updSeg x f).leaveEntry t o = (s.leaveEntry t o).updSeg x f := by
  cases he : (s.slot t).attachedEntry with
  | none => rw [leaveEntry_of_unattached he, leaveEntry_of_unattached (by rw [updSeg_slot, he])]
  | some e =>
    rw [leaveEntry_of_attached he, leaveEntry_of_attached (by rw [updSeg_slot, he]), detached_updSeg, updSeg_entry,
      completeQuiesce_updSeg]
    split <;> rfl

theorem dropClaim_updSeg (s : State) (x : Seg) (f : Segment → Segment) (r : RecordNo) :
    (s.updSeg x f).dropClaim r = (s.dropClaim r).updSeg x f := by
  unfold dropClaim
  rw [updSeg_record]
  cases x <;> cases (s.record r).claim <;> rfl

theorem fill_updSeg (s : State) (x : Seg) (f : Segment → Segment) (t : Tag) (r : RecordNo) :
    (s.updSeg x f).fill t r = (s.fill t r).updSeg x f := by
  have hbuf : (s.updSeg x f).slotBuffer t = s.slotBuffer t := slotBuffer_congr (by simp) (by simp)
  have hswap (bs : List Byte) (a : Nat) : ((s.updSeg x f).writeStore a bs).updRecord r Record.validate
      = ((s.writeStore a bs).updRecord r Record.validate).updSeg x f := by cases x <;> rfl
  simp only [fill, hbuf, updSeg_record, hswap, dropClaim_updSeg]
  cases x <;> rfl

theorem settleClaim_updSeg (s : State) (x : Seg) (f : Segment → Segment) (t : Tag) (st : Status) :
    (s.updSeg x f).settleClaim t st = (s.settleClaim t st).updSeg x f := by
  have hclaimed : (s.updSeg x f).claimedRecord t = s.claimedRecord t := by simp [claimedRecord]
  unfold settleClaim
  rw [hclaimed]
  split
  · rfl
  · rw [updSeg_slot, updSeg_record]
    split
    · split
      · exact fill_updSeg s x f t _
      · rw [dropClaim_updSeg]; cases x <;> rfl
    · exact dropClaim_updSeg s x f _

/-- The outcome of a transaction does not touch the controllers: a controller may change before it or after it. -/
theorem handOn_updSeg (s : State) (x : Seg) (f : Segment → Segment) (t : Tag) (o : Status × Reason × PayloadSource) :
    (s.handOn t o).updSeg x f = (s.updSeg x f).handOn t o := by
  unfold handOn
  rw [leaveEntry_updSeg, settleClaim_updSeg]
  cases x <;> rfl

/-! ## The ends of transactions (R81 to R89, R93, R96) -/

/-- A controller enters GAP carrying nothing, or a slot whose failure it knows (R85). -/
theorem lawful_enterGap {g : Segment} (G : g.Lawful B) {c : Carried} {f : Option AttemptFailure}
    (hoff : g.segState = .disabled → c = .nothing) (hf : ∀ t, c = .slot t → f.isSome = true) :
    (g.enterGap c f).Lawful B :=
  { G with
    off := hoff
    idle := fun he => by cases he
    busy := fun he => by rcases he with he | he <;> cases he
    timed := fun _ he => by cases he
    failed := fun _ t _ hc => hf t hc }

/-- A transaction ends: its slot leaves the engine, which enters GAP, and is answered (R88). -/
theorem endTransaction_laws {x : Seg} {t : Tag} (L : s.Laws B none h) (ht : (s.seg x).carried = .slot t)
    {o : Status × Reason × PayloadSource} (ho : o.2.2 = .none ∨ ∃ n, o.2.2 = .buffer n) :
    ((s.handOn t o).updSeg x (fun g => g.enterGap .nothing none)).Laws B none h := by
  rw [handOn_updSeg]
  refine handOn_laws ?_ (by simpa using L.carried ht) ho
  exact L.takeCarried rfl (lawful_enterGap (L.segs x) (fun _ => rfl) (by simp)) (.inl rfl)
    (.inl (mayDispatch_of_busy (by simp [Segment.enterGap]))) rfl ht rfl

theorem lawful_rest {g : Segment} (G : g.Lawful B) : g.rest.Lawful B :=
  { G with
    off := fun _ => rfl
    idle := fun _ => rfl
    busy := fun he => by rcases he with he | he <;> cases he
    timed := fun _ he => by cases he
    failed := fun _ _ he => by cases he }

/-- An engine that has reached IDLE ends its drain, or may dispatch (R86, R96, R98). -/
theorem engineRests_laws {x : Seg} (L : (s.updSeg x Segment.rest).Laws B (some x) h) :
    (s.engineRests x).Laws B none h := by
  unfold engineRests
  dsimp only
  generalize hs1 : s.updSeg x Segment.rest = s1 at L
  have hrest : (s1.seg x).carried = .nothing := by rw [← hs1, updSeg_seg, if_pos rfl]; rfl
  split
  · next hdrain =>
    have G := L.segs x
    obtain ⟨hq, hdue, htimer⟩ := G.rests (by simp [hdrain])
    have hlaw : ({ s1.seg x with segState := .disabled, waitingDisable := none } : Segment).Lawful B :=
      { G with
        drains := by simp
        rests := fun _ => ⟨hq, hdue, htimer⟩
        off := fun _ => hrest }
    split
    · next hnone => exact absurd hnone (Option.isSome_iff_ne_none.1 (G.drains.2 hdrain))
    · next t ht =>
      have L' := L.takeDisable (d' := none) (f := fun g => { g with segState := .disabled, waitingDisable := none }) ht rfl
        hlaw (.inr rfl) (.inl (mayDispatch_of_off (by simp))) rfl rfl
      have hw : (s1.slot t).state = .waiting := L.awaited (c := .segmentDisable x) ht
      exact respond_none_laws L' (L'.unanswered_of_waiting (by simpa using hw))
  · exact dispatch_laws L

/-- The next attempt of a carried slot (R86). -/
theorem retry_laws (L : s.Laws B none h) {x : Seg} {t : Tag} (ht : (s.seg x).carried = .slot t) (frame : List Byte)
    (c : SegCounters → SegCounters) :
    ((s.updSlot t (fun sl => { sl with attempts := sl.attempts + 1 })).updSeg x
      (fun g => (g.send (.slot t) frame).count c)).Laws B none h := by
  have hon := L.carried ht
  have L1 : (s.updSlot t (fun sl => { sl with attempts := sl.attempts + 1 })).Laws B none h := by
    refine L.updSlot ⟨.inr ⟨rfl, by simp [hon]⟩, { L.slots t with }, fun k hk => .inl hk, fun k hk => .inl hk⟩ rfl
      (fun _ => rfl) (fun _ => rfl) fun b => ?_
    exact claimLaw_of_kept (v := t) (L.claims b) (fun w hw => by simp [hw]) rfl rfl (by simp) (by simp) (by simp)
      (by simp) (by simp [hon])
  have hseg : (s.updSlot t (fun sl => { sl with attempts := sl.attempts + 1 })).seg x = s.seg x := by simp
  refine L1.updSeg_stays rfl ?_ (.inl rfl) (.inl (mayDispatch_of_busy (by simp [Segment.count, Segment.send]))) rfl ?_
  · have hlaw := lawful_send (L.segs x) (c := .slot t) (fun hoff => by simp [(L.segs x).off hoff] at ht) (by simp) frame
    rw [hseg]
    exact { hlaw with }
  · rw [hseg, ht]; rfl

/-- The last permitted attempt of a carried slot has failed (R87, R88). -/
theorem failOutcome_laws (L : s.Laws B none h) {x : Seg} {t : Tag} (ht : (s.seg x).carried = .slot t)
    (a : AttemptFailure) : ((s.failOutcome x t a).updSeg x Segment.rest).Laws B (some x) h := by
  unfold failOutcome
  rw [handOn_updSeg]
  generalize hu : (s.raise (nodeSegFail x) (stationDetail (s.slot t).station)).requestFailure x
    (s.slot t).station = u
  have Lu : u.Laws B none h := L.of_view (by rw [← hu]; simp)
  have htu : (u.seg x).carried = .slot t := by rw [← hu]; simpa using ht
  exact handOn_laws (Lu.takeCarried (d' := some x) rfl (lawful_rest (Lu.segs x)) (.inl rfl) (.inr rfl) rfl htu rfl)
    (by simpa using Lu.carried htu) (.inl rfl)

theorem gapEnd_laws (L : s.Laws B none h) (x : Seg) : (s.gapEnd x).Laws B none h := by
  unfold gapEnd
  split
  · next t hg ht =>
    split
    · exact retry_laws L ht _ _
    · exact engineRests_laws (failOutcome_laws L ht _)
  · next c hg hc =>
    refine engineRests_laws (L.updSeg_stays rfl (lawful_rest (L.segs x)) (.inl rfl) (.inr rfl) rfl ?_)
    cases hcar : (s.seg x).carried with
    | nothing => rfl
    | slot t => exact absurd hcar (hc t)
    | probe i => rfl
  · exact L

end State
end Sys2Proof.Machine

/-! # PROOFS. The events of the lines and the timers under the laws (O58, O59). -/

namespace Sys2Proof.Machine
namespace State

variable {B : Prop} {d d' : Option Seg} {h h' : List Tag} {s : State}

/-! ## The segments' events (R81 to R93) -/

/-- A change of a controller's receiver, counters or configuration. -/
theorem Laws.updSeg_other (L : s.Laws B none h) {x : Seg} {f : Segment → Segment}
    (hf : ∃ rt rl pi c rx, f (s.seg x)
      = { s.seg x with respTimeout := rt, retryLimit := rl, probeInterval := pi, counters := c, rx := rx }) :
    (s.updSeg x f).Laws B none h := by
  obtain ⟨rt, rl, pi, c, rx, hf⟩ := hf
  refine L.updSeg_stays (by rw [hf]) ?_ (.inl rfl) (.inl ?_) (by rw [hf]) (by rw [hf])
  · rw [hf]; exact { L.segs x with }
  · rw [hf]; exact L.ready x (by simp)

/-- The failure of an attempt: an AWAITING engine enters GAP (R85). -/
theorem lawful_failAttempt {g : Segment} (G : g.Lawful B) (hg : g.engine = .awaiting) (f : AttemptFailure) :
    (g.failAttempt f).Lawful B := by
  unfold Segment.failAttempt
  split
  · next t ht => exact lawful_enterGap G (fun hoff => absurd (G.off hoff) (G.busy (.inr hg))) fun _ _ => rfl
  · exact lawful_enterGap G (fun _ => rfl) (by simp)
  · exact lawful_enterGap G (fun _ => rfl) (by simp)

theorem failAttempt_laws (L : s.Laws B none h) {x : Seg} (hx : (s.seg x).engine = .awaiting) (a : AttemptFailure)
    (c : SegCounters → SegCounters) : (s.updSeg x (fun g => (g.failAttempt a).count c)).Laws B none h := by
  have hlaw := lawful_failAttempt (L.segs x) hx a
  refine L.updSeg_stays ?_ { hlaw with } (.inl rfl) (.inl (mayDispatch_of_busy ?_)) ?_ ?_
  all_goals
    simp only [Segment.failAttempt, Segment.count]
    split
  all_goals simp [Segment.enterGap, Carried.tags, *]

theorem responseTimerExpiry_laws (L : s.Laws B none h) (x : Seg) : (s.responseTimerExpiry x).Laws B none h := by
  unfold responseTimerExpiry
  split
  · next hx => exact failAttempt_laws L hx.1 _ _
  · exact L

theorem storeResponse_laws (L : s.Laws B d h) (t : Tag) (p : List Byte) : (s.storeResponse t p).Laws B d h := by
  unfold storeResponse
  split
  · exact L
  · exact L
  · exact writeFrameBuffer_laws L _ _

/-- The source of an accepted response is no record or captured value (R87). -/
theorem acceptedOutcome_source (sl : Slot) (status : Byte) (n : Nat) :
    (acceptedOutcome sl status n).2.2 = .none ∨ ∃ m, (acceptedOutcome sl status n).2.2 = .buffer m := by
  unfold acceptedOutcome
  repeat' split
  all_goals simp

theorem storeResponse_slot (t v : Tag) (p : List Byte) : (s.storeResponse t p).slot v = s.slot v := by
  unfold storeResponse
  split
  · rfl
  · rfl
  · exact writeFrameBuffer_slot _ _ _ _

theorem storeResponse_updSeg (s : State) (x : Seg) (f : Segment → Segment) (t : Tag) (p : List Byte) :
    (s.updSeg x f).storeResponse t p = (s.storeResponse t p).updSeg x f := by
  unfold storeResponse
  rw [updSeg_slot]
  cases p with
  | nil => rfl
  | cons b bs => cases x <;> cases (s.slot t).frameBuf <;> rfl

theorem requestSuccess_updSeg (s : State) (x : Seg) (f : Segment → Segment) (st : Station) :
    (s.updSeg x f).requestSuccess st = (s.requestSuccess st).updSeg x f := by
  unfold requestSuccess
  cases x <;> cases stationRecordOf st <;> rfl

/-- An accepted response ends the transaction of the slot that its segment carries (R83, R88). -/
theorem acceptResponse_slot {x : Seg} {t : Tag} (ht : (s.seg x).carried = .slot t) (r : Response) :
    s.acceptResponse x r = (((s.updSeg x (fun g => g.enterGap .nothing none)).storeResponse t r.payload).requestSuccess
      (s.slot t).station).handOn t (acceptedOutcome (s.slot t) r.status r.payload.length) := by
  simp only [acceptResponse, ht]
  rw [handOn_updSeg, ← requestSuccess_updSeg, ← storeResponse_updSeg, updSeg_updSeg]
  rfl

theorem acceptResponse_laws (L : s.Laws B none h) (x : Seg) (r : Response) : (s.acceptResponse x r).Laws B none h := by
  cases hc : (s.seg x).carried with
  | nothing => simpa only [acceptResponse, hc] using L
  | slot t =>
    rw [acceptResponse_slot hc]
    have L1 : (s.updSeg x (fun g => g.enterGap .nothing none)).Laws B none (t :: h) :=
      L.takeCarried rfl (lawful_enterGap (L.segs x) (fun _ => rfl) (by simp)) (.inl rfl)
        (.inl (mayDispatch_of_busy (by simp [Segment.enterGap]))) rfl hc rfl
    have L2 := storeResponse_laws L1 t r.payload
    exact handOn_laws (L2.of_view (requestSuccess_lawView _ _)) (by simpa [storeResponse_slot] using L.carried hc)
      (acceptedOutcome_source _ _ _)
  | probe i =>
    simp only [acceptResponse, hc]
    have L1 : (s.probeSuccess x i).Laws B none h := L.of_view (s.probeSuccess_lawView x i)
    have hcar : ((s.probeSuccess x i).seg x).carried = .probe i := by simpa using hc
    refine L1.updSeg_stays rfl (lawful_enterGap (L1.segs x) (fun _ => rfl) (by simp)) (.inl rfl)
      (.inl (mayDispatch_of_busy (by simp [Segment.enterGap]))) rfl ?_
    rw [hcar]; rfl

theorem judgeSegmentFrame_laws (L : s.Laws B none h) (x : Seg) (f : Option Response) :
    (s.judgeSegmentFrame x f).Laws B none h := by
  have hstray : (s.updSeg x Segment.stray).Laws B none h := L.updSeg_other ⟨_, _, _, _, _, rfl⟩
  unfold judgeSegmentFrame
  split
  · exact L
  · exact L
  · exact hstray
  · exact hstray
  · have ha : (s.seg x).engine = .awaiting := by assumption
    split
    · exact failAttempt_laws L ha _ _
    · split
      · split
        · exact acceptResponse_laws L x _
        · exact failAttempt_laws L ha _ _
      · exact hstray

theorem segmentFrameRxEnd_laws (L : s.Laws B none h) (x : Seg) : (s.segmentFrameRxEnd x).Laws B none h := by
  have L1 : (s.updSeg x (fun g => { g with rx := Receiver.idle })).Laws B none h :=
    L.updSeg_other ⟨_, _, _, _, _, rfl⟩
  unfold segmentFrameRxEnd
  dsimp only
  repeat' split
  · exact L
  · exact L1
  · exact L1
  · exact judgeSegmentFrame_laws L1 x _

theorem segmentFrameTxEnd_laws (L : s.Laws B none h) (x : Seg) : (s.segmentFrameTxEnd x).Laws B none h := by
  have hawait (hx : (s.seg x).engine = .sending) : (s.updSeg x (fun g =>
      { g with engine := .awaiting, responseTimer := some g.respTimeout, frame := [] })).Laws B none h := by
    refine L.updSeg_stays rfl ?_ (.inl rfl) (.inl (mayDispatch_of_busy (by simp))) rfl rfl
    exact { L.segs x with
      idle := fun he => by cases he
      busy := fun _ => (L.segs x).busy (.inl hx)
      timed := fun _ _ => rfl
      failed := fun _ _ he => by cases he }
  unfold segmentFrameTxEnd
  dsimp only
  split
  · next t hx ht =>
    split
    · exact endTransaction_laws L ht (.inr ⟨0, rfl⟩)
    · exact hawait hx
  · next hx _ => exact hawait hx
  · exact L

theorem probeTimerExpiry_laws (L : s.Laws B none h) (x : Seg) : (s.probeTimerExpiry x).Laws B none h := by
  unfold probeTimerExpiry
  split
  · next ht =>
    refine dispatch_laws (L.updSeg_stays rfl ?_ (.inl rfl) (.inr rfl) rfl rfl)
    have G := L.segs x
    exact { G with rests := fun hne => by simp [(G.rests hne).2.2] at ht }
  · exact L

theorem byteArrival_laws (L : s.Laws B none h) (b : Byte) (l : Line) : (s.byteArrival b l).Laws B none h := by
  cases l with
  | upstream => exact L.of_view rfl
  | segment x =>
    refine L.updSeg_other (x := x) (f := fun g => g.byte b) ?_
    unfold Segment.byte
    split
    · exact ⟨_, _, _, _, _, rfl⟩
    · exact ⟨_, _, _, _, _, rfl⟩

/-! ## The starts of transmission (R115) -/

/-- The head of the return queue goes SENDING (R113, R115). -/
theorem startResponse_laws (L : s.Laws B d h) {t : Tag} {q : List Tag} (hq : s.rtp.queue = t :: q)
    (hnone : s.rtp.carries = .nothing) : (s.startResponse t q).Laws B d h := by
  have ht : (s.slot t).state = .returning := L.state_of_mem (st := .returning) (by decide) (by simp [listOf, hq])
  have hl := L.slots t
  have L1 := L.takeReturning hq
  have L2 : ((s.updReturn (fun p => { p with queue := q })).updSlot t
      (fun sl => { sl with state := .sending })).Laws B d (t :: h) := by
    refine L1.updSlot ⟨.inl (by simp), ?_, fun k hk => .inl hk, fun k hk => .inl hk⟩ rfl (fun _ => rfl) (fun _ => rfl)
      fun b => ?_
    · exact {
        attached := fun ha => by simpa [ht] using (hl.attached ha).2
        sourced := fun _ => .inr rfl
        buffered := fun _ hs => by rcases hs with hs | hs <;> cases hs
        answered := fun b _ => hl.answered b (.inl ht) }
    · have hfill := L.fillClaim_eq_false b (t := t) (by simp [ht])
      exact claimLaw_of_unclaimed (v := t) (L1.claims b) (fun w hw => by simp [hw]) (fun _ => rfl) (fun _ => rfl) rfl
        hfill (by simpa using hfill)
  exact L2.putSending (by simp) hnone (s.slotResponse t)

theorem start_laws (L : s.Laws B d h) : s.start.Laws B d h := by
  unfold start
  split
  · next hi =>
    have hnone : s.rtp.carries = .nothing := L.sends.2 (by simp [hi])
    unfold arbiter
    split
    · next k _ =>
      exact (L.updReturn_stays
        (f := fun p => { p with latch := s.ntu.latchOf k }.begin .notice (noticeFrame (s.ntu.latchOf k)))
        (by simp [ReturnPath.begin]) rfl (by rw [hnone]; rfl)).of_view rfl
    · exact L.updReturn_stays (by simp [ReturnPath.begin]) rfl (by rw [hnone]; rfl)
    · next hq => exact startResponse_laws L hq hnone
    · exact L
  · exact L

/-- After a start none is left to make (R115). -/
theorem started_start : s.start.Started := by
  unfold start Started
  split
  · unfold arbiter
    split
    · exact fun hi => by simp [startNotice, ReturnPath.begin] at hi
    · exact fun hi => by simp [ReturnPath.begin] at hi
    · exact fun hi => by simp [startResponse, ReturnPath.begin] at hi
    · next hn hc hq => exact fun _ => ⟨hn, hc, hq⟩
  · next hi => exact fun hi' => absurd hi' hi

/-! ## The ends of upstream frames (R31, R120 to R122) -/

theorem lawful_empty : ({} : Slot).Lawful B where
  attached := fun h => by cases h
  sourced := fun h => by cases h
  buffered := fun _ h => by rcases h with h | h <;> cases h
  answered := fun _ h => by rcases h with h | h <;> cases h

/-- A SENDING slot in hand is freed (R31). -/
theorem freeSlot_laws {t : Tag} (L : s.Laws B d (t :: h)) (ht : (s.slot t).state = .sending) :
    (s.freeSlot t).Laws B d h := by
  have hatt : (s.slot t).attached = false := Bool.eq_false_iff.2 fun ha => by simpa [ht] using ((L.slots t).attached ha).2
  have hclaim (b : B) : (s.slot t).fillClaim = false := L.fillClaim_eq_false b (by simp [ht])
  have hnew : s.SlotChange B (t :: h) t {} :=
    ⟨.inl (by simp), lawful_empty, fun _ hk => (nomatch hk), fun _ hk => (nomatch hk)⟩
  refine Laws.putFree (t := t) ?_ (by simp [freeSlot])
  unfold freeSlot unpin
  have hplain (hreads : ∀ r, (s.slot t).reads r = false) : (s.updSlot t (fun _ => {})).Laws B d (t :: h) :=
    L.updSlot hnew hatt.symm (fun ha => by simp [hatt] at ha) (fun r => (hreads r).symm) fun b =>
      claimLaw_of_unclaimed (v := t) (L.claims b) (fun w hw => by simp [hw]) (fun _ => rfl) (fun _ => rfl) rfl (hclaim b)
        (by simp)
  split
  · next r o n hsrc =>
    have hreads (m) : (s.slot t).reads m = decide (r = m) := by simp [Slot.reads, hsrc]
    have hslot (w) : ((s.updRecord r (fun rc => { rc with pins := rc.pins - 1 })).updSlot t (fun _ => {})).slot w
        = if w = t then {} else s.slot w := by
      by_cases hw : w = t <;> simp [hw]
    refine L.setSlot (funext fun st => by cases st <;> rfl) (funext fun c => by cases c <;> simp [waitOf])
      (funext fun x => by simp) rfl rfl hslot hnew
      (L.inFlight_of_slot hslot (fun _ => rfl) hatt.symm fun ha => by simp [hatt] at ha) (fun m => ?_) fun b => ?_
    · by_cases hm : m = r
      · subst hm
        have hpins := L.pins m
        rw [countP_indexes_of_off (p := fun w => (((s.updRecord m (fun rc => { rc with pins := rc.pins - 1 })).updSlot t
          (fun _ => {})).slot w).reads m) t (by simp [Slot.reads]) (by simp [hreads])
          fun w hw => by simp only [hslot, if_neg hw]] at hpins
        simp [hpins]
      · rw [show State.record _ m = s.record m by simp [hm], L.pins]
        refine List.countP_congr fun w _ => ?_
        rw [hslot]
        by_cases hw : w = t
        · subst hw
          rw [if_pos rfl, hreads]
          simp [Slot.reads, Ne.symm hm]
        · rw [if_neg hw]
    · refine claimLaw_of_unclaimed (v := t) (L.claims b) (fun w hw => by simp [hw]) (fun m => ?_) (fun m => ?_) rfl
        (hclaim b) (by simp)
      · rw [updSlot_record, updRecord_record]; split <;> rfl
      · rw [updSlot_record, updRecord_record]; split <;> rfl
  · next hsrc => exact hplain fun r => by simp [Slot.reads, hsrc]
  · next hsrc => exact hplain fun r => by simp [Slot.reads, hsrc]
  · next hsrc => exact hplain fun r => by simp [Slot.reads, hsrc]
  · next hsrc => exact hplain fun r => by simp [Slot.reads, hsrc]

/-- The end of a slot's frame, before a restart that it performs (R120). -/
theorem endFrame_laws (L : s.Laws B d h) {t : Tag} (ht : s.rtp.carries = .slot t) :
    (((s.freeSlot t).countResponse).updReturn ReturnPath.space).Laws B d h := by
  have hst : (s.slot t).state = .sending :=
    L.state_of_mem (st := .sending) (by decide) (mem_txCarriedTags.2 ht)
  have hswap : ((s.freeSlot t).countResponse).updReturn ReturnPath.space
      = ((s.updReturn ReturnPath.space).freeSlot t).countResponse := by
    unfold freeSlot unpin
    rw [updReturn_slot]
    split <;> rfl
  rw [hswap]
  exact (freeSlot_laws (L.takeSending ht) hst).of_view (countResponse_lawView _)

/-- A state with every slot FREE and nothing in any place. -/
structure Blank (s : State) : Prop where
  slots   : ∀ t, s.slot t = {}
  entries : ∀ e, (s.entry e).inFlight = 0 ∧ (s.entry e).holder = none
  records : ∀ r, (s.record r).pins = 0 ∧ (s.record r).claim = none
  segs    : ∀ x, (s.seg x).queue = [] ∧ (s.seg x).carried = .nothing ∧ (s.seg x).engine = .idle
    ∧ (s.seg x).probeDue = false ∧ (s.seg x).waitingDisable = none ∧ (s.seg x).segState ≠ .draining
    ∧ ((s.seg x).segState ≠ .enabled → (s.seg x).probeTimer = none)
  pending : s.mga.pendingRecords = []
  queue   : s.rtp.queue = []
  carries : s.rtp.carries = .nothing
  txState : s.rtp.txState ≠ .transmitting

/-- No slot is in any place. -/
theorem Blank.listOf_eq_nil (E : s.Blank) (st : SlotState) : s.listOf st = [] := by
  obtain ⟨haq, hac, _⟩ := E.segs .a
  obtain ⟨hbq, hbc, _⟩ := E.segs .b
  simp only [State.seg] at haq hac hbq hbc
  cases st
  case free => rfl
  case queued => rw [listOf, haq, hbq]; rfl
  case onWire => rw [listOf, hac, hbc]; rfl
  case waiting => rw [listOf, E.pending]; rfl
  case returning => exact E.queue
  case sending => rw [listOf, E.carries]; rfl

theorem Blank.laws (E : s.Blank) : s.Laws B none [] where
  places := {
    mem := fun t st hst => by simpa [E.listOf_eq_nil, E.slots] using hst.symm
    nodup := fun st => by rw [E.listOf_eq_nil]; exact List.nodup_nil
    handOnce := List.nodup_nil }
  waits := fun c t => by
    cases c with
    | entryHold e => simp [waitOf, E.pending, (E.entries e).2]
    | segmentDisable x =>
      obtain ⟨_, _, _, _, hw, _⟩ := E.segs x
      simp [waitOf, E.pending, hw]
  segs := fun x => by
    obtain ⟨hq, hc, hi, hd, hw, hs, ht⟩ := E.segs x
    exact {
      drains := by simp [hw, hs]
      rests := fun hne => ⟨hq, hd, ht hne⟩
      off := fun _ => hc
      idle := fun _ => hc
      busy := fun he => by rcases he with he | he <;> simp [hi] at he
      timed := fun _ he => by simp [hi] at he
      failed := fun _ _ he => by simp [hi] at he }
  ready := fun x _ => by
    obtain ⟨hq, _, _, hd, _⟩ := E.segs x
    exact mayDispatch_of_rest hd hq
  sends := by simp [E.carries, E.txState]
  inFlight := fun e => by
    rw [(E.entries e).1, eq_comm, List.countP_eq_zero]
    simp [E.slots]
  pins := fun r => by
    rw [(E.records r).1, eq_comm, List.countP_eq_zero]
    simp [E.slots, Slot.reads]
  slots := fun t => by rw [E.slots]; exact lawful_empty
  blank := fun t _ _ => E.slots t
  frameBufs := fun t v k hk => by simp [E.slots] at hk
  mgmtBufs := fun t v k hk => by simp [E.slots] at hk
  claims := fun _ => ⟨fun t => by simp [E.slots, (E.records _).2], fun a b t ha => by simp [(E.records a).2] at ha,
    fun r t hr => by simp [(E.records r).2] at hr⟩

theorem blank_of_reset {t : State} (hort : t.ort = State.reset.ort) (hen : t.entries = State.reset.entries)
    (hrst : t.rst = State.reset.rst) (hseg : ∀ x, ∃ rx, t.seg x = { rx := rx }) (hmga : t.mga = {})
    (hq : t.rtp.queue = []) (hc : t.rtp.carries = .nothing) (htx : t.rtp.txState ≠ .transmitting) : t.Blank where
  slots   := fun v => by rw [show t.slot v = State.reset.slot v by simp only [State.slot, hort], reset_slot]
  entries := fun e => by
    rw [show t.entry e = State.reset.entry e by simp only [State.entry, hen], reset_entry]; exact ⟨rfl, rfl⟩
  records := fun r => by
    rw [show t.record r = State.reset.record r by simp only [State.record, hrst], reset_record]; exact ⟨rfl, rfl⟩
  segs    := fun x => by
    obtain ⟨rx, hx⟩ := hseg x
    simp [hx]
  pending := by rw [hmga]
  queue   := hq
  carries := hc
  txState := htx

theorem powerOn_blank (s : State) : s.powerOn.Blank :=
  blank_of_reset rfl rfl rfl (fun x => ⟨{}, by cases x <;> rfl⟩) rfl rfl rfl
    (show TxState.idle ≠ .transmitting by decide)

theorem performFull_blank (s : State) : s.performFull.Blank :=
  blank_of_reset rfl rfl rfl (fun x => by cases x; exacts [⟨s.segA.rx, rfl⟩, ⟨s.segB.rx, rfl⟩]) rfl rfl rfl
    (by simp [performFull, ReturnPath.space])

theorem performTraffic_blank (hc : s.rtp.carries = .nothing) (htx : s.rtp.txState ≠ .transmitting) :
    s.performTraffic.Blank where
  slots   := fun t => Vector.getElem_replicate t.isLt
  entries := fun e => by
    have he : s.performTraffic.entry e = { s.entry e with inFlight := 0, holder := none } := mapAll_get _ _ e
    rw [he]; exact ⟨rfl, rfl⟩
  records := fun r => by
    have hr : s.performTraffic.record r = { s.record r with pins := 0, claim := none } := mapAll_get _ _ r
    rw [hr]; exact ⟨rfl, rfl⟩
  segs    := fun x => by
    have hx : s.performTraffic.seg x = (s.seg x).restartTraffic := by cases x <;> rfl
    rw [hx]
    by_cases he : (s.seg x).segState = .enabled <;> simp [Segment.restartTraffic, Segment.rest, he]
  pending := rfl
  queue   := rfl
  carries := hc
  txState := htx

theorem responseFrameEnd_laws (L : s.Laws B none []) : s.responseFrameEnd.Laws B none [] := by
  unfold responseFrameEnd
  split
  · next t _ ht =>
    have L1 := endFrame_laws L ht
    unfold performRestart
    repeat' split
    · exact L1
    · exact (performTraffic_blank (by simp [ReturnPath.space]) (by simp [ReturnPath.space])).laws
    · exact (performFull_blank _).laws
    · exact L1
  · exact L

theorem responseFrameEnd_started (S : s.Started) : s.responseFrameEnd.Started := by
  unfold responseFrameEnd
  split
  · unfold performRestart
    repeat' split
    all_goals exact fun hi => by simp [performTraffic, performFull, ReturnPath.space] at hi
  · exact S

/-- A frame that carries no slot ends. -/
theorem space_laws (L : s.Laws B d h) (hc : s.rtp.carries.tags = []) : (s.updReturn ReturnPath.space).Laws B d h :=
  L.updReturn_stays (by simp [ReturnPath.space]) rfl (by rw [hc]; rfl)

theorem clashFrameEnd_laws (L : s.Laws B d h) : s.clashFrameEnd.Laws B d h := by
  unfold clashFrameEnd
  split
  · next hc => exact space_laws (L.of_view (t := s.popClash.countResponse) rfl) (by simp [hc, TxCarried.tags])
  · exact L

theorem noticeFrameEnd_laws (L : s.Laws B d h) : s.noticeFrameEnd.Laws B d h := by
  unfold noticeFrameEnd
  split
  · next hc => exact space_laws (s := State.updCounters _ _) (L.of_view rfl) (by simp [hc, TxCarried.tags])
  · exact L

theorem clashFrameEnd_started (S : s.Started) : s.clashFrameEnd.Started := by
  unfold clashFrameEnd
  split
  · exact fun hi => by simp [ReturnPath.space] at hi
  · exact S

theorem noticeFrameEnd_started (S : s.Started) : s.noticeFrameEnd.Started := by
  unfold noticeFrameEnd
  split
  · exact fun hi => by simp [ReturnPath.space] at hi
  · exact S

theorem spacingEnd_laws (L : s.Laws B d h) : s.spacingEnd.Laws B d h := by
  unfold spacingEnd
  split
  · next hs => exact start_laws (L.updReturn_stays (by simp [L.sends, hs]) rfl rfl)
  · exact L

theorem spacingEnd_started (S : s.Started) : s.spacingEnd.Started := by
  unfold spacingEnd
  split
  · exact started_start
  · exact S

theorem repeatTimerExpiry_laws (L : s.Laws B d h) : s.repeatTimerExpiry.Laws B d h := by
  unfold repeatTimerExpiry
  split
  · exact start_laws (L.of_view rfl)
  · exact L

theorem repeatTimerExpiry_started (S : s.Started) : s.repeatTimerExpiry.Started := by
  unfold repeatTimerExpiry
  split
  · exact started_start
  · exact S

end State
end Sys2Proof.Machine

/-! # PROOFS. The management agent under the laws (O58, O59). -/

namespace Sys2Proof.Machine

/-- What a verdict on the request of a FREE slot in hand keeps: what is done leaves the slot in hand and FREE, and
what waits puts it in its place (R151, R157). -/
def Verdict.Lawful (B : Prop) (t : Tag) : Verdict → Prop
  | .done u => u.Laws B none [t] ∧ (u.slot t).state = .free
  | .waits u => u.Laws B none []
  | .refused _ _ => True

namespace State

variable {B : Prop} {d d' : Option Seg} {h h' : List Tag} {s : State}

/-! ## What happens to the other slots -/

/-- A FREE slot may be answered. -/
theorem Laws.unanswered_of_free (L : s.Laws B d h) {t : Tag} (ht : (s.slot t).state = .free) :
    (s.slot t).Unanswered B where
  attached := Bool.eq_false_iff.2 fun ha => by simpa [ht] using ((L.slots t).attached ha).2
  source := Option.not_isSome_iff_eq_none.1 fun ha => by simpa [ht] using (L.slots t).sourced ha
  claim := fun b => L.fillClaim_eq_false b (by simp [ht])

/-- A segment that is not DRAINING has no command waiting for it. -/
theorem Laws.waitingDisable_eq_none (L : s.Laws B d h) {x : Seg} (hx : (s.seg x).segState ≠ .draining) :
    (s.seg x).waitingDisable = none := by
  simpa [hx] using (not_congr (L.segs x).drains).2

/-- The holder of an entry is a WAITING slot. -/
theorem Laws.holder_ne (L : s.Laws B d h) (e : EntryNo) {v : Tag} (hv : (s.slot v).state ≠ .waiting) :
    (s.entry e).holder ≠ some v := fun hh => hv (L.awaited (c := .entryHold e) hh)

/-- A slot that is not WAITING keeps its state when another slot is turned away. -/
theorem Laws.turnAway_state (L : s.Laws B d h) {t v : Tag} (hne : v ≠ t) (hv : (s.slot v).state ≠ .waiting)
    (st : Status) : ((s.turnAway t st).slot v).state = (s.slot v).state := by
  have hleave : ((s.leaveEntry t none).slot v).state = (s.slot v).state := by
    cases he : (s.slot t).attachedEntry with
    | none => rw [leaveEntry_of_unattached he]
    | some e =>
      have hdet : ((s.detached t e none).slot v) = s.slot v := by simp [detached, hne]
      have hhold : ((s.detached t e none).entry e).holder = (s.entry e).holder := by simp [detached, Entry.depart]
      rw [leaveEntry_of_attached he]
      split
      · rw [((s.detached t e none).completeQuiesce_effect e).1, hhold,
          if_neg (L.holder_ne e hv), hdet]
      · rw [hdet]
  obtain ⟨b, hb, _⟩ := (s.leaveEntry t none).releaseClaim_eq_settleClaim_slot t v
  unfold turnAway
  rw [respond_slot, if_neg hne, hb]
  exact hleave

theorem dropClaim_state (s : State) (r : RecordNo) (v : Tag) : ((s.dropClaim r).slot v).state = (s.slot v).state := by
  obtain ⟨b, hb, _⟩ := s.dropClaim_slot_flag r v
  rw [hb]

end State

open State

variable {B : Prop} {s u : State} {t : Tag}

/-- A done verdict that changes nothing that the laws speak of. -/
theorem Verdict.lawful_of_view (L : s.Laws B none [t]) (ht : (s.slot t).state = .free) (hu : u.lawView = s.lawView) :
    (Verdict.done u).Lawful B t := by
  refine ⟨L.of_view hu, ?_⟩
  rw [show u.slot t = s.slot t from congrFun (congrArg LawView.slot hu) t]
  exact ht

/-- A done verdict that drops a claim too. -/
theorem Verdict.lawful_of_dropClaim (L : s.Laws B none [t]) (ht : (s.slot t).state = .free)
    (hu : u.lawView = s.lawView) (r : RecordNo) : (Verdict.done (u.dropClaim r)).Lawful B t := by
  obtain ⟨Lu, hfree⟩ := Verdict.lawful_of_view L ht hu
  exact ⟨dropClaim_laws Lu r, (u.dropClaim_state r t).trans hfree⟩

/-! ## Entry writes (R3, R16 to R18) -/

section

variable (sl : Slot) (e : EntryNo)

@[simp] theorem Slot.detachedFrom_state : (sl.detachedFrom e).state = sl.state := by
  unfold detachedFrom; split <;> rfl
@[simp] theorem Slot.detachedFrom_fillClaim : (sl.detachedFrom e).fillClaim = sl.fillClaim := by
  unfold detachedFrom; split <;> rfl
@[simp] theorem Slot.detachedFrom_function : (sl.detachedFrom e).function = sl.function := by
  unfold detachedFrom; split <;> rfl
@[simp] theorem Slot.detachedFrom_reqLen : (sl.detachedFrom e).reqLen = sl.reqLen := by
  unfold detachedFrom; split <;> rfl
@[simp] theorem Slot.detachedFrom_frameBuf : (sl.detachedFrom e).frameBuf = sl.frameBuf := by
  unfold detachedFrom; split <;> rfl
@[simp] theorem Slot.detachedFrom_mgmtBuf : (sl.detachedFrom e).mgmtBuf = sl.mgmtBuf := by
  unfold detachedFrom; split <;> rfl
@[simp] theorem Slot.detachedFrom_reads (r : RecordNo) : (sl.detachedFrom e).reads r = sl.reads r := by
  unfold detachedFrom; split <;> rfl

end

namespace State

variable {B : Prop} {d d' : Option Seg} {h h' : List Tag} {s : State}

theorem claimLaw_of_detached {t : State} (hc : s.claimLaw) {e : EntryNo}
    (hslot : ∀ v, t.slot v = (s.slot v).detachedFrom e) (hrst : t.rst = s.rst)
    (hbuf : t.ort.frameBuffers = s.ort.frameBuffers) : t.claimLaw := by
  have hfb (v) : t.slotBuffer v = s.slotBuffer v := slotBuffer_congr (by rw [hslot, Slot.detachedFrom_frameBuf]) hbuf
  have hrec (r) : t.record r = s.record r := by simp only [State.record, hrst]
  simpa only [State.claimLaw, hslot, Slot.detachedFrom_fillClaim, Slot.detachedFrom_state, Slot.detachedFrom_function,
    Slot.detachedFrom_reqLen, hfb, hrec] using hc

/-- The slots of an entry are detached and its in-flight count is 0 (R16). -/
theorem detachAll_laws (L : s.Laws B d h) (e : EntryNo) :
    ((s.detachAll e).updEntry e (fun en => { en with inFlight := 0 })).Laws B d h := by
  have hslot (v) : ((s.detachAll e).updEntry e (fun en => { en with inFlight := 0 })).slot v
      = (s.slot v).detachedFrom e := by simp [Slot.detachedFrom]
  refine L.setSlots (funext fun st => by cases st <;> rfl) (funext fun c => ?_) (funext fun x => by simp) rfl rfl
    (fun v _ => ?_) (fun v => ?_) (fun v _ hv => ?_) ?_ ?_ (fun n => ?_) (fun r => ?_)
    fun b => claimLaw_of_detached (L.claims b) hslot rfl rfl
  · cases c with
    | entryHold n => by_cases hn : n = e <;> simp [waitOf, hn]
    | segmentDisable x => simp [waitOf]
  · rw [hslot, Slot.detachedFrom_state]
  · have hl := L.slots v
    rw [hslot, Slot.detachedFrom]
    split
    · exact { hl with attached := fun ha => by cases ha }
    · exact hl
  · rw [hslot, hv]; rfl
  · simpa only [hslot, Slot.detachedFrom_frameBuf] using L.frameBufs
  · simpa only [hslot, Slot.detachedFrom_mgmtBuf] using L.mgmtBufs
  · by_cases hn : n = e
    · subst hn
      rw [updEntry_entry, if_pos rfl, eq_comm]
      refine List.countP_eq_zero.2 fun v _ => ?_
      rw [hslot, Slot.detachedFrom]
      split
      · simp
      · next he => simp [he]
    · rw [updEntry_entry, if_neg hn, detachAll_entry, L.inFlight]
      refine List.countP_congr fun v _ => ?_
      rw [hslot, Slot.detachedFrom]
      split
      · next he => simp [he, Ne.symm hn]
      · rfl
  · rw [updEntry_record, detachAll_record, L.pins]
    exact List.countP_congr fun v _ => by rw [hslot, Slot.detachedFrom_reads]

/-- What the laws speak of after an entry write: the slots detached and the quiesce ended. -/
theorem replaceEntry_lawView (s : State) (e : EntryNo) {new : Entry} (hf : new.inFlight = 0) (hh : new.holder = none) :
    (s.replaceEntry e new).lawView
      = (((s.detachAll e).updEntry e (fun en => { en with inFlight := 0 })).completeQuiesce e).lawView := by
  cases hv : (s.entry e).holder with
  | none =>
    rw [replaceEntry, completeQuiesce_none _ (by simpa using hv), completeQuiesce_none _ (by simpa using hv)]
    simp only [lawView, LawView.mk.injEq]
    refine ⟨rfl, funext fun n => ?_, rfl, rfl, rfl, rfl, rfl, rfl, rfl⟩
    by_cases hn : n = e
    · subst hn; simp [hf, hh, hv]
    · simp [hn]
  | some v =>
    rw [replaceEntry, completeQuiesce_some _ (by simpa using hv), completeQuiesce_some _ (by simpa using hv)]
    simp only [lawView, LawView.mk.injEq]
    refine ⟨rfl, funext fun n => ?_, rfl, rfl, rfl, rfl, rfl, rfl, rfl⟩
    by_cases hn : n = e
    · subst hn; simp [hf, hh]
    · simp [hn]

theorem replaceEntry_laws (L : s.Laws B d h) (e : EntryNo) {new : Entry} (hf : new.inFlight = 0)
    (hh : new.holder = none) : (s.replaceEntry e new).Laws B d h :=
  (completeQuiesce_laws (detachAll_laws L e) e).of_view (s.replaceEntry_lawView e hf hh)

end State

theorem writeEntry_lawful (L : s.Laws B none [t]) (ht : (s.slot t).state = .free) (e : EntryNo) (p : List Byte) :
    (writeEntry s e p).Lawful B t := by
  unfold writeEntry
  split
  · trivial
  · next new hnew =>
    obtain ⟨_, _, hf, hh⟩ := entryOf_kept hnew
    split
    · trivial
    · refine ⟨replaceEntry_laws L e hf hh, ?_⟩
      rw [(s.replaceEntry_effect e new).1, if_neg (L.holder_ne e (by simp [ht])), Slot.detachedFrom]
      split <;> exact ht

/-! ## The other objects (R55, R60, R94, R103, R129, R154) -/

/-- A descriptor is written with no claim and no pin (R56). -/
theorem descriptorOf_kept {p : List Byte} {new : Record} (h : descriptorOf p = some new) :
    new.claim = none ∧ new.pins = 0 := by
  unfold descriptorOf at h
  dsimp only at h
  repeat' split at h
  all_goals simp only [Option.some.injEq, reduceCtorEq] at h
  all_goals
    subst h
    exact ⟨rfl, rfl⟩

theorem writeDescriptor_lawful (L : s.Laws B none [t]) (ht : (s.slot t).state = .free) (n : RecordNo)
    (p : List Byte) : (writeDescriptor s n p).Lawful B t := by
  unfold writeDescriptor
  repeat' split
  · trivial
  · trivial
  · trivial
  · trivial
  · trivial
  · next new hnew _ _ hpins _ =>
    obtain ⟨hc, hp⟩ := descriptorOf_kept hnew
    have hrec := s.dropClaim_record n n
    rw [if_pos rfl] at hrec
    have hview : ((s.dropClaim n).updRecord n (fun _ => new)).lawView = (s.dropClaim n).lawView :=
      updRecord_lawView _ (by rw [hrec, hp]; simpa using (Nat.eq_zero_of_not_pos hpins).symm) (by rw [hrec, hc])
        (.inr (by rw [hrec]))
    exact Verdict.lawful_of_view (dropClaim_laws L n) ((s.dropClaim_state n t).trans ht) hview

theorem writeRecordData_lawful (L : s.Laws B none [t]) (ht : (s.slot t).state = .free) (n : RecordNo) (position : Nat)
    (p : List Byte) : (writeRecordData s n position p).Lawful B t := by
  unfold writeRecordData
  repeat' split
  · trivial
  · trivial
  · trivial
  · trivial
  · unfold State.dataWritten
    repeat' split
    · exact Verdict.lawful_of_dropClaim L ht (updRecord_lawView (s.writeStore _ p) (f := Record.validate) rfl rfl (.inl rfl)) n
    · exact Verdict.lawful_of_dropClaim L ht (updRecord_lawView (s.writeStore _ p) (f := Record.invalidate) rfl rfl (.inl rfl)) n
    · exact Verdict.lawful_of_view L ht (by simp)

theorem writeSegmentConfig_lawful (L : s.Laws B none [t]) (ht : (s.slot t).state = .free) (x : Seg) (p : List Byte) :
    (writeSegmentConfig s x p).Lawful B t := by
  unfold writeSegmentConfig
  dsimp only
  split
  · trivial
  · split
    · trivial
    · exact ⟨L.updSeg_other ⟨_, _, _, _, _, rfl⟩, by rw [updSeg_slot]; exact ht⟩

theorem writeGeneral_lawful (L : s.Laws B none [t]) (ht : (s.slot t).state = .free) (p : List Byte) :
    (writeGeneral s p).Lawful B t := by
  unfold writeGeneral
  repeat' split
  · trivial
  · exact Verdict.lawful_of_view L ht (by simp)
  · trivial

theorem writeNoticeConfig_lawful (L : s.Laws B none [t]) (ht : (s.slot t).state = .free) (p : List Byte) :
    (writeNoticeConfig s p).Lawful B t := by
  unfold writeNoticeConfig
  split
  · trivial
  · exact Verdict.lawful_of_view L ht (by simp)

theorem writeNode_lawful (L : s.Laws B none [t]) (ht : (s.slot t).state = .free) (k : NodeNo) (p : List Byte) :
    (writeNode s k p).Lawful B t := by
  unfold writeNode
  split
  · exact Verdict.lawful_of_view L ht (by simp)
  · trivial

theorem writeStation_lawful (L : s.Laws B none [t]) (ht : (s.slot t).state = .free) (i : StationNo) (p : List Byte) :
    (writeStation s i p).Lawful B t := by
  unfold writeStation
  split
  · trivial
  · exact Verdict.lawful_of_view L ht (by simp)

/-! ## Commands that wait, and what ends a wait (R20 to R22, R95 to R98) -/

namespace State

variable {B : Prop} {d d' : Option Seg} {h h' : List Tag} {s : State}

/-- A FREE slot in hand goes WAITING (R147). -/
theorem wait_laws {t : Tag} (L : s.Laws B d (t :: h)) (ht : (s.slot t).state = .free) :
    (s.updSlot t (fun sl => { sl with state := .waiting })).Laws B d (t :: h) := by
  have hs := L.unanswered_of_free ht
  refine L.updSlot ⟨.inl (by simp), ?_, fun k hk => .inl hk, fun k hk => .inl hk⟩ rfl (fun _ => rfl) (fun _ => rfl)
    fun b => claimLaw_of_unclaimed (v := t) (L.claims b) (fun w hw => by simp [hw]) (fun _ => rfl) (fun _ => rfl) rfl
      (hs.claim b) (by simpa using hs.claim b)
  exact {
    attached := fun ha => by simp [hs.attached] at ha
    sourced := fun ha => by simp [hs.source] at ha
    buffered := fun _ hst => by simp at hst
    answered := fun _ hst => by simp at hst }

/-- A waiting command that another command overtakes, once its block has let it go (R157, R158). -/
theorem overtake_laws {t : Tag} {c : CommandObject}
    (L : (s.updAgent (fun m => { m with pendingRecords := m.pendingRecords.filter (fun p => p.tag ≠ t) })).Laws B d
      (t :: h)) (ht : (s.slot t).state = .waiting) : (s.overtake t c).Laws B d h := by
  have hend : (s.endWait t .refused .overtaken).Laws B d h := respond_none_laws L (L.unanswered_of_waiting ht)
  exact hend.of_view (raise_lawView _ _ _)

/-- The queued slots in hand are answered SEGMENT_DOWN, and a FREE slot stays so (R95 step 2). -/
theorem answerDown_laws {l : List Tag} (L : s.Laws B d (l ++ h)) (hl : ∀ t ∈ l, (s.slot t).state = .queued) :
    (State.answerDown l s).Laws B d h
      ∧ ∀ v, (s.slot v).state = .free → ((State.answerDown l s).slot v).state = .free := by
  induction l generalizing s with
  | nil => exact ⟨L, fun _ hv => hv⟩
  | cons t l ih =>
    have ht : (s.slot t).state = .queued := hl t (by simp)
    have hqueued : ∀ v ∈ l, ((s.turnAway t .segmentDown).slot v).state = .queued := by
      intro v hv
      have hne : v ≠ t := by
        rintro rfl
        exact (List.nodup_cons.1 L.places.handOnce).1 (List.mem_append_left _ hv)
      have hq := hl v (List.mem_cons_of_mem _ hv)
      rw [L.turnAway_state hne (by simp [hq]), hq]
    obtain ⟨Lend, hfree⟩ := ih (turnAway_laws L ht .segmentDown) hqueued
    refine ⟨Lend, fun v hv => hfree v ?_⟩
    have hne : v ≠ t := by
      rintro rfl
      rw [ht] at hv
      cases hv
    rw [L.turnAway_state hne (by simp [hv]), hv]

end State

theorem cmdEntryHold_lawful (L : s.Laws B none [t]) (ht : (s.slot t).state = .free) (arg : Byte) :
    (cmdEntryHold s t arg).Lawful B t := by
  unfold cmdEntryHold
  split
  · trivial
  · next e _ =>
    split
    · trivial
    · next hnone =>
      split
      · exact Verdict.lawful_of_view L ht (by simp)
      · exact (wait_laws L ht).putHolder (f := fun en => { en with hold := true, holder := some t }) (by simp)
          (Option.not_isSome_iff_eq_none.1 hnone) rfl rfl

theorem cmdEntryRelease_lawful (L : s.Laws B none [t]) (ht : (s.slot t).state = .free) (arg : Byte) :
    (cmdEntryRelease s arg).Lawful B t := by
  unfold cmdEntryRelease
  dsimp only
  split
  · trivial
  · next e _ =>
    split
    · next hnone => exact Verdict.lawful_of_view L ht (by simp [hnone])
    · next v hv =>
      have hwait : (s.slot v).state = .waiting := L.awaited (c := .entryHold e) hv
      have hne : t ≠ v := by
        rintro rfl
        rw [ht] at hwait
        cases hwait
      exact ⟨overtake_laws (L.takeHolder (f := fun en => { en with hold := false, holder := none }) hv rfl rfl) hwait,
        by simpa [overtake, hne] using ht⟩

theorem cmdEntryBar_lawful (L : s.Laws B none [t]) (ht : (s.slot t).state = .free) (arg : Byte) :
    (cmdEntryBar s arg).Lawful B t := by
  unfold cmdEntryBar
  split
  · trivial
  · exact Verdict.lawful_of_view L ht (by simp)

theorem cmdEntryUnbar_lawful (L : s.Laws B none [t]) (ht : (s.slot t).state = .free) (arg : Byte) :
    (cmdEntryUnbar s arg).Lawful B t := by
  unfold cmdEntryUnbar
  split
  · trivial
  · exact Verdict.lawful_of_view L ht (by simp)

theorem cmdStreamRewind_lawful (L : s.Laws B none [t]) (ht : (s.slot t).state = .free) (arg : Byte) :
    (cmdStreamRewind s arg).Lawful B t := by
  unfold cmdStreamRewind
  repeat' split
  · trivial
  · exact Verdict.lawful_of_view L ht (updRecord_lawView _ rfl rfl (.inl rfl))
  · trivial

theorem cmdMirrorInvalidate_lawful (L : s.Laws B none [t]) (ht : (s.slot t).state = .free) (arg : Byte) :
    (cmdMirrorInvalidate s arg).Lawful B t := by
  unfold cmdMirrorInvalidate
  repeat' split
  · trivial
  · exact Verdict.lawful_of_dropClaim L ht (updRecord_lawView _ rfl rfl (.inl rfl)) _
  · trivial

/-- A segment that is not ENABLED has nothing to dispatch when it is (R95, R98). -/
theorem Segment.enable_mayDispatch {g : Segment} (G : g.Lawful B) (hg : g.segState ≠ .enabled) :
    g.enable.mayDispatch = false :=
  mayDispatch_of_rest rfl (G.rests hg).1

theorem State.dispatch_eq_self {x : Seg} (h : (s.seg x).mayDispatch = false) : s.dispatch x = s := by
  simp [State.dispatch, h]

/-- A DISABLED segment is enabled (R98). -/
theorem enable_lawful (L : s.Laws B none [t]) (ht : (s.slot t).state = .free) {x : Seg}
    (hoff : (s.seg x).segState = .disabled) : (Verdict.done ((s.updSeg x Segment.enable).dispatch x)).Lawful B t := by
  have hready := Segment.enable_mayDispatch (L.segs x) (by simp [hoff])
  have hnone := L.waitingDisable_eq_none (x := x) (by simp [hoff])
  rw [dispatch_eq_self (by simpa using hready)]
  refine ⟨L.updSeg_stays rfl ?_ (.inl rfl) (.inl hready) rfl rfl, by simpa using ht⟩
  exact { L.segs x with
    drains := by simp [Segment.enable, hnone]
    rests := fun hne => absurd rfl hne
    off := fun hne => by cases hne }

/-- A DRAINING segment is enabled, and the command that waits for its drain is overtaken (R98, R157). -/
theorem enable_overtakes_lawful (L : s.Laws B none [t]) (ht : (s.slot t).state = .free) {x : Seg} {v : Tag}
    (hdrain : (s.seg x).segState = .draining) (hv : (s.seg x).waitingDisable = some v) :
    (Verdict.done (((s.updSeg x (fun g => { g.enable with waitingDisable := none })).overtake v
      .segmentDisable).dispatch x)).Lawful B t := by
  have hready := Segment.enable_mayDispatch (L.segs x) (by simp [hdrain])
  have hlaw : ({ (s.seg x).enable with waitingDisable := none } : Segment).Lawful B :=
    { L.segs x with
      drains := by simp [Segment.enable]
      rests := fun hne => absurd rfl hne
      off := fun hne => by cases hne }
  have hwait : (s.slot v).state = .waiting := L.awaited (c := .segmentDisable x) hv
  have hne : t ≠ v := by
    rintro rfl
    rw [ht] at hwait
    cases hwait
  rw [dispatch_eq_self (by simpa [Segment.mayDispatch] using hready)]
  exact ⟨overtake_laws (L.takeDisable (f := fun g => { g.enable with waitingDisable := none }) hv rfl hlaw (.inl rfl)
    (.inl hready) rfl rfl) (by simpa using hwait), by simpa [overtake, hne] using ht⟩

theorem cmdSegmentEnable_lawful (L : s.Laws B none [t]) (ht : (s.slot t).state = .free) (arg : Byte) :
    (cmdSegmentEnable s arg).Lawful B t := by
  unfold cmdSegmentEnable
  dsimp only
  split
  · trivial
  · next x _ =>
    split
    · rw [dispatch_eq_self (L.ready x (by simp))]
      exact ⟨L, ht⟩
    · next hoff => exact enable_lawful L ht hoff
    · next hdrain =>
      obtain ⟨v, hv⟩ := Option.isSome_iff_exists.1 ((L.segs x).drains.2 hdrain)
      rw [hv]
      exact enable_overtakes_lawful L ht hdrain hv

namespace State

theorem answerDown_seg (l : List Tag) (x : Seg) : (State.answerDown l s).seg x = s.seg x := by
  induction l generalizing s with
  | nil => rfl
  | cons t l ih => rw [State.answerDown, ih, turnAway_seg]

/-- A segment whose queue has ended begins to drain, and the FREE slot of the command waits (R95 step 3). -/
theorem beginDrain_laws {x : Seg} (L : s.Laws B none [t]) (ht : (s.slot t).state = .free)
    (hx : (s.seg x).segState = .enabled)
    (hrest : (s.seg x).queue = [] ∧ (s.seg x).probeDue = false ∧ (s.seg x).probeTimer = none) (mark : Bool) :
    (s.beginDrain x t mark).Laws B none [] := by
  have hswap : s.beginDrain x t mark = ((s.updSlot t (fun sl => { sl with state := .waiting })).updSeg x (fun g =>
      { g with segState := .draining, finalMark := g.finalMark || mark, waitingDisable := some t })).updAgent
        (fun m => { m with pendingRecords := m.pendingRecords ++ [{ tag := t, command := .segmentDisable x }] }) := by
    cases x <;> rfl
  rw [hswap]
  refine (wait_laws L ht).putDisable (by simp) (by simpa using L.waitingDisable_eq_none (by simp [hx])) rfl ?_ (.inl rfl)
    (.inl (mayDispatch_of_off (by simp))) rfl rfl
  rw [updSlot_seg]
  exact { L.segs x with
    drains := by simp
    rests := fun _ => hrest
    off := fun hne => by cases hne }

end State

theorem cmdSegmentDisable_lawful (L : s.Laws B none [t]) (ht : (s.slot t).state = .free) (arg : Byte) :
    (cmdSegmentDisable s t arg).Lawful B t := by
  unfold cmdSegmentDisable
  dsimp only
  split
  · trivial
  · next x _ =>
    split
    · exact ⟨L, ht⟩
    · trivial
    · next hon =>
      have G := L.segs x
      have L0 := L.takeQueued (d' := none) (x := x) (f := fun g => { g with probeTimer := none, probeDue := false, queue := [] })
        (l := (s.seg x).queue) rfl { G with rests := fun _ => ⟨rfl, rfl, rfl⟩ } (.inl rfl)
        (.inl (mayDispatch_of_rest rfl rfl)) (by simp) rfl
      obtain ⟨L1, hfree⟩ := answerDown_laws L0 fun v hv => by rw [updSeg_slot]; exact L.queued hv
      have ht1 := hfree t (by rw [updSeg_slot]; exact ht)
      have hseg := answerDown_seg (s := s.updSeg x (fun g => { g with probeTimer := none, probeDue := false, queue := [] }))
        (s.seg x).queue x
      rw [updSeg_seg, if_pos rfl] at hseg
      split
      · exact beginDrain_laws L1 ht1 (by rw [hseg]; exact hon) (by rw [hseg]; exact ⟨rfl, rfl, rfl⟩) true
      · exact beginDrain_laws L1 ht1 (by rw [hseg]; exact hon) (by rw [hseg]; exact ⟨rfl, rfl, rfl⟩) false
      · next hnone =>
        refine ⟨L1.updSeg_stays rfl ?_ (.inl rfl) (.inl (mayDispatch_of_off (by simp))) rfl rfl, by
          rw [updSeg_slot]; exact ht1⟩
        rw [hseg]
        exact { G with
          drains := by simp [L.waitingDisable_eq_none (x := x) (by simp [hon])]
          rests := fun _ => ⟨rfl, rfl, rfl⟩
          off := fun _ => hnone }

theorem cmdStationForget_lawful (L : s.Laws B none [t]) (ht : (s.slot t).state = .free) (arg : Byte) :
    (cmdStationForget s arg).Lawful B t := by
  unfold cmdStationForget
  split
  · trivial
  · exact Verdict.lawful_of_view L ht (by simp)

theorem cmdNoticeAck_lawful (L : s.Laws B none [t]) (ht : (s.slot t).state = .free) (arg : Byte) :
    (cmdNoticeAck s arg).Lawful B t := by
  unfold cmdNoticeAck
  repeat' split
  · trivial
  · exact Verdict.lawful_of_view L ht (by simp)
  · trivial

theorem cmdNoticeDone_lawful (L : s.Laws B none [t]) (ht : (s.slot t).state = .free) :
    (cmdNoticeDone s).Lawful B t := by
  unfold cmdNoticeDone
  split
  · trivial
  · exact Verdict.lawful_of_view L ht (by simp)

theorem cmdNoticeForce_lawful (L : s.Laws B none [t]) (ht : (s.slot t).state = .free) (arg flags : Byte) :
    (cmdNoticeForce s arg flags).Lawful B t := by
  unfold cmdNoticeForce
  repeat' split
  · trivial
  · trivial
  · exact Verdict.lawful_of_view L ht (by simp)
  · exact Verdict.lawful_of_view L ht (by simp)
  · exact ⟨L, ht⟩

theorem cmdRestart_lawful (L : s.Laws B none [t]) (ht : (s.slot t).state = .free) (arg : Byte) :
    (cmdRestart s t arg).Lawful B t := by
  unfold cmdRestart
  split
  · trivial
  · exact Verdict.lawful_of_view L ht (by simp)

/-- The counters of both segments are cleared, and no other field of theirs (R160). -/
theorem clearCounters_eq (s : State) : s.clearCounters
    = ((s.updSeg .a (fun g => { g with counters := {} })).updSeg .b (fun g => { g with counters := {} })).updCounters
        (fun _ => {}) := rfl

theorem clearCounters_lawful (L : s.Laws B none [t]) (ht : (s.slot t).state = .free) :
    (Verdict.done s.clearCounters).Lawful B t := by
  rw [clearCounters_eq]
  exact ⟨((L.updSeg_other (x := .a) ⟨_, _, _, _, _, rfl⟩).updSeg_other (x := .b) ⟨_, _, _, _, _, rfl⟩).of_view
    (updCounters_lawView _ _), ht⟩

/-! ## The agent's decision (R147 to R152) -/

theorem runCommand_lawful (L : s.Laws B none [t]) (ht : (s.slot t).state = .free) (p : List Byte)
    (c : CommandObject) : (runCommand s t p c).Lawful B t := by
  cases c
  case entryHold => exact cmdEntryHold_lawful L ht _
  case entryRelease => exact cmdEntryRelease_lawful L ht _
  case entryBar => exact cmdEntryBar_lawful L ht _
  case entryUnbar => exact cmdEntryUnbar_lawful L ht _
  case streamRewind => exact cmdStreamRewind_lawful L ht _
  case mirrorInvalidate => exact cmdMirrorInvalidate_lawful L ht _
  case segmentEnable => exact cmdSegmentEnable_lawful L ht _
  case segmentDisable => exact cmdSegmentDisable_lawful L ht _
  case stationForget => exact cmdStationForget_lawful L ht _
  case noticeAck => exact cmdNoticeAck_lawful L ht _
  case noticeDone => exact cmdNoticeDone_lawful L ht
  case noticeForce => exact cmdNoticeForce_lawful L ht _ _
  case countersClear => exact clearCounters_lawful L ht
  case restart => exact cmdRestart_lawful L ht _

theorem ownerWrite_lawful {q : Request} (L : s.Laws B none [q.tag]) (ht : (s.slot q.tag).state = .free)
    (o : MgmtObject) : (ownerWrite s q o).Lawful B q.tag := by
  cases o
  case general => exact writeGeneral_lawful L ht _
  case segment x => exact writeSegmentConfig_lawful L ht x _
  case notice => exact writeNoticeConfig_lawful L ht _
  case command c => exact runCommand_lawful L ht _ c
  case entry n => exact writeEntry_lawful L ht n _
  case descriptor n => exact writeDescriptor_lawful L ht n _
  case recordData n => exact writeRecordData_lawful L ht n _ _
  case station i => exact writeStation_lawful L ht i _
  case node k => exact writeNode_lawful L ht k _
  case identity => trivial
  case counters => trivial
  case unknown => trivial

theorem mgmtWrite_lawful {q : Request} (L : s.Laws B none [q.tag]) (ht : (s.slot q.tag).state = .free)
    (o : MgmtObject) : (mgmtWrite s q o).Lawful B q.tag := by
  unfold mgmtWrite
  repeat' split
  · trivial
  · trivial
  · trivial
  · exact ownerWrite_lawful L ht o

namespace State

variable {q : Request}

theorem refuse_laws (L : s.Laws B none [q.tag]) (ht : (s.slot q.tag).state = .free) (st : Status) (rs : Reason) :
    (s.refuse q st rs).Laws B none [] := by
  have hresp : (s.respond q.tag st rs .none).Laws B none [] := respond_none_laws L (L.unanswered_of_free ht)
  exact hresp.of_view (raise_lawView _ _ _)

theorem conclude_laws (L : s.Laws B none [q.tag]) (ht : (s.slot q.tag).state = .free) (o : MgmtObject) {v : Verdict}
    (hv : v.Lawful B q.tag) : (s.conclude q o v).Laws B none [] := by
  cases v with
  | done u =>
    obtain ⟨Lu, hfree⟩ := hv
    rw [conclude_done]
    exact capture_laws Lu (Lu.unanswered_of_free hfree)
  | waits u => exact hv
  | refused st rs => exact refuse_laws L ht st rs

theorem mgmtRead_laws (L : s.Laws B none [q.tag]) (ht : (s.slot q.tag).state = .free) (o : MgmtObject) :
    (s.mgmtRead q o).Laws B none [] := by
  unfold mgmtRead
  repeat' split
  · exact refuse_laws L ht _ _
  · exact refuse_laws L ht _ _
  · exact refuse_laws L ht _ _
  · exact capture_laws L (L.unanswered_of_free ht)

theorem manage_laws (L : s.Laws B none [q.tag]) (ht : (s.slot q.tag).state = .free) :
    (s.manage q).Laws B none [] := by
  unfold manage
  repeat' split
  · exact refuse_laws L ht _ _
  · exact refuse_laws L ht _ _
  · exact respond_none_laws L (L.unanswered_of_free ht)
  · exact mgmtRead_laws L ht _
  · exact conclude_laws L ht _ (mgmtWrite_lawful L ht _)

end State
end Sys2Proof.Machine

/-! # PROOFS. Admission under the laws, and every step (O58, O59). -/

namespace Sys2Proof.Machine
namespace State

variable {B : Prop} {s : State} {q : Request}

/-! ## The forward path (R40 to R45) -/

theorem refuseForward_laws (L : s.Laws B none []) (ht : (s.slot q.tag).state = .free) (e : Option EntryNo) (st : Status)
    (rs : Reason) : (s.refuseForward q e st rs).Laws B none [] :=
  answer_laws L ht (by simp) _ e st rs

theorem forward_laws (L : s.Laws B none []) (ht : (s.slot q.tag).state = .free) (h127 : q.station ≠ 127)
    (e : Option EntryNo) : (s.forward q e).Laws B none [] := by
  unfold forward
  split
  · exact refuseForward_laws L ht e _ _
  · next x _ =>
    split
    · exact refuseForward_laws L ht e _ _
    · split
      · exact refuseForward_laws L ht e _ _
      · next hon =>
        split
        · exact (refuseForward_laws L ht e _ _).of_view (raise_lawView _ _ _)
        · split
          · exact (refuseForward_laws L ht e _ _).of_view (raise_lawView _ _ _)
          · next k hk => exact dispatch_laws (enqueue_laws L ht (by simp) h127 hk (not_not.1 hon))

/-! ## Matches and misses (R9, R10, R39, R61 to R69) -/

theorem occupyLocal_laws (L : s.Laws B none []) (ht : (s.slot q.tag).state = .free) (e : EntryNo) :
    (s.occupyLocal q e).Laws B none [q.tag] ∧ ((s.occupyLocal q e).slot q.tag).Unanswered B := by
  refine ⟨occupy_laws L ht (by simp) _ _, ?_⟩
  rw [occupyLocal_slot, if_pos rfl]
  exact occupiedSlot_unanswered q _ _

theorem fixedAnswer_laws (L : s.Laws B none [q.tag]) (hs : (s.slot q.tag).Unanswered B) (r : RecordNo) :
    (s.fixedAnswer q r).Laws B none [] := by
  unfold fixedAnswer
  split
  · exact answerBytes_laws L hs
  · exact respond_none_laws L hs

theorem chunkAnswer_laws (L : s.Laws B none [q.tag]) (hs : (s.slot q.tag).Unanswered B) (r : RecordNo) :
    (s.chunkAnswer q r).Laws B none [] := by
  have L1 := answerBytes_laws (r := r) (o := (s.record r).base + (s.record r).cursor)
    (n := (s.record r).nextChunk q.reqLen.toNat) L hs
  have L2 := L1.of_view (updRecord_lawView _ (r := r)
    (f := fun rc => rc.advance ((s.record r).nextChunk q.reqLen.toNat)) rfl rfl (.inl rfl))
  unfold chunkAnswer
  dsimp only
  split
  · exact L2.of_view (raise_lawView _ _ _)
  · exact L2

theorem streamAnswer_laws (L : s.Laws B none [q.tag]) (hs : (s.slot q.tag).Unanswered B) (r : RecordNo) :
    (s.streamAnswer q r).Laws B none [] := by
  unfold streamAnswer
  repeat' split
  · exact respond_none_laws L hs
  · exact chunkAnswer_laws L hs r
  · exact respond_none_laws L hs

theorem mirrorAnswer_laws (L : s.Laws B none []) (ht : (s.slot q.tag).state = .free) (h127 : q.station ≠ 127)
    (e : EntryNo) (r : RecordNo) : (s.mirrorAnswer q e r).Laws B none [] := by
  have L1 := L.of_view (s.judgeFreshness_lawView r)
  have ht1 : ((s.judgeFreshness r).slot q.tag).state = .free := by rw [judgeFreshness_slot]; exact ht
  unfold mirrorAnswer
  dsimp only
  split
  · split
    · obtain ⟨L2, hs⟩ := occupyLocal_laws L1 ht1 e
      exact answerBytes_laws L2 hs
    · exact forward_laws L1 ht1 h127 _
  · exact forward_laws L ht h127 _

theorem act_laws (L : s.Laws B none []) (ht : (s.slot q.tag).state = .free) (h127 : q.station ≠ 127) (e : EntryNo) :
    (s.act q e).Laws B none [] := by
  obtain ⟨L1, hs⟩ := occupyLocal_laws L ht e
  unfold act
  split
  · exact forward_laws L ht h127 _
  · exact fixedAnswer_laws L1 hs _
  · split
    · exact forward_laws L ht h127 _
    · exact streamAnswer_laws L1 hs _
  · exact mirrorAnswer_laws L ht h127 e _

theorem hit_laws (L : s.Laws B none []) (ht : (s.slot q.tag).state = .free) (h127 : q.station ≠ 127) (e : EntryNo) :
    (s.hit q e).Laws B none [] := by
  have L1 := L.of_view (s.countHit_lawView e)
  have ht1 : ((s.countHit e).slot q.tag).state = .free := by rw [countHit_slot]; exact ht
  unfold hit
  split
  · exact answer_laws L1 ht1 (by simp) _ _ _ _
  · exact act_laws L1 ht1 h127 e

theorem miss_laws (L : s.Laws B none []) (ht : (s.slot q.tag).state = .free) (h127 : q.station ≠ 127) :
    (s.miss q).Laws B none [] := by
  have L1 := L.of_view (s.raise_lawView nodeMiss (stationDetail q.station))
  unfold miss
  dsimp only
  split
  · exact answer_laws L1 ht (by simp) _ _ _ _
  · exact forward_laws L1 ht h127 _

/-! ## The acceptance decision (R33 to R38) and the upstream receiver (R167, R172) -/

theorem clash_laws (L : s.Laws B none []) : (s.clash q).Laws B none [] := by
  unfold clash
  dsimp only
  split
  · exact L.of_view rfl
  · exact L.of_view rfl

theorem toAgent_laws (L : s.Laws B none []) (ht : (s.slot q.tag).state = .free) : (s.toAgent q).Laws B none [] := by
  unfold toAgent
  split
  · exact answer_laws L ht (by simp) _ _ _ _
  · next k hk =>
    refine manage_laws (occupyMgmt_laws L ht (by simp) hk) ?_
    rw [occupyMgmt_slot, if_pos rfl]
    rfl

theorem toStation_laws (L : s.Laws B none []) (ht : (s.slot q.tag).state = .free) (h127 : q.station ≠ 127) :
    (s.toStation q).Laws B none [] := by
  unfold toStation
  repeat' split
  · exact answer_laws L ht (by simp) _ _ _ _
  · exact miss_laws L ht h127
  · exact hit_laws L ht h127 _

theorem accept_laws (L : s.Laws B none []) (q : Request) : (s.accept q).Laws B none [] := by
  unfold accept
  split
  · exact L.of_view rfl
  · split
    · exact clash_laws L
    · next ht =>
      split
      · exact toAgent_laws L (not_not.1 ht)
      · next h127 => exact toStation_laws L (not_not.1 ht) h127

theorem judgeUpstream_laws (L : s.Laws B none []) (r : Except Half Request) : (s.judgeUpstream r).Laws B none [] := by
  cases r with
  | error d => exact L.of_view rfl
  | ok q => exact accept_laws (L.of_view s.countFrame_lawView) q

theorem upstreamFrameEnd_laws (L : s.Laws B none []) : s.upstreamFrameEnd.Laws B none [] := by
  have L1 := L.of_view s.readyRx_lawView
  unfold upstreamFrameEnd
  split
  · exact L
  · exact L1
  · exact judgeUpstream_laws L1 _

theorem receiveRequest_laws (L : s.Laws B none []) (q : Request) : (s.receiveRequest q).Laws B none [] := by
  have L1 := L.of_view s.readyRx_lawView
  unfold receiveRequest
  split
  · exact L1
  · exact judgeUpstream_laws L1 _
  · exact judgeUpstream_laws L1 _

theorem receiverIdleGap_laws (L : s.Laws B none []) (l : Line) : (s.receiverIdleGap l).Laws B none [] := by
  cases l with
  | upstream => exact upstreamFrameEnd_laws L
  | segment x => exact segmentFrameRxEnd_laws L x

/-! ## Every event and every step -/

/-- The laws of a state between events: nothing in hand, no dispatch left to make and no start of transmission. -/
structure Settled (B : Prop) (s : State) : Prop where
  laws    : s.Laws B none []
  started : s.Started

/-- A state of power-on values is settled. -/
theorem Blank.settled (E : s.Blank) (hq : s.ort.clashQueue = []) (hdue : s.ntu.dueNode = none) : s.Settled B :=
  ⟨E.laws, fun _ => ⟨hdue, hq, E.queue⟩⟩

theorem powerOn_settled (s : State) : s.powerOn.Settled B := s.powerOn_blank.settled rfl rfl

theorem assertReset_settled (s : State) : s.assertReset.Settled B :=
  ⟨(s.powerOn_settled.laws).of_view rfl, s.powerOn_settled (B := B).started⟩

theorem responseTimerExpiry_settled (S : s.Settled B) (x : Seg) : (s.responseTimerExpiry x).Settled B := by
  refine ⟨responseTimerExpiry_laws S.laws x, ?_⟩
  unfold responseTimerExpiry
  split
  · simpa [Started] using S.started
  · exact S.started

theorem byteArrival_settled (S : s.Settled B) (b : Byte) (l : Line) : (s.byteArrival b l).Settled B := by
  refine ⟨byteArrival_laws S.laws b l, ?_⟩
  cases l with
  | upstream => exact S.started
  | segment x => simpa [Started, byteArrival] using S.started

theorem start_settled (L : s.Laws B none []) : s.start.Settled B := ⟨start_laws L, started_start⟩

end State

open State

variable {B : Prop}

theorem quietEvent_settled {f : State → State} {s t : State} (S : s.Settled B) (hf : (f s).Settled B)
    (h : quietEvent f s = .next t) : t.Settled B := by
  cases h
  split
  · exact S
  · exact hf

theorem event_settled {f : State → State} {s t : State} (S : s.Settled B) (hf : (f s).Laws B none [])
    (h : event f s = .next t) : t.Settled B :=
  quietEvent_settled (f := fun s => (f s).start) S (start_settled hf) h

theorem execResetAssert_settled {w : PulseWidth} {s t : State} (S : s.Settled B) (h : execResetAssert w s = .next t) :
    t.Settled B := by
  cases w with
  | full =>
    cases h
    exact s.assertReset_settled
  | short =>
    cases h
    split
    · exact State.assertReset_settled _
    · exact ⟨S.laws.of_view rfl, S.started⟩

theorem exec_settled {i : Instr} {s t : State} (S : s.Settled B) (h : exec i s = .next t) : t.Settled B := by
  have L := S.laws
  have st := S.started
  cases hq : requestOfRow i with
  | some q =>
    rw [exec_of_requestOfRow hq] at h
    exact event_settled S (receiveRequest_laws L q) h
  | none =>
    cases i
    case upstreamFrameEnd => exact event_settled S (upstreamFrameEnd_laws L) h
    case dispatch x => exact event_settled (f := fun s => s.dispatch x) S (dispatch_laws_none L x) h
    case segmentFrameTxEnd x =>
      exact event_settled (f := fun s => s.segmentFrameTxEnd x) S (segmentFrameTxEnd_laws L x) h
    case segmentFrameRxEnd x =>
      exact event_settled (f := fun s => s.segmentFrameRxEnd x) S (segmentFrameRxEnd_laws L x) h
    case responseTimerExpiry x =>
      exact quietEvent_settled (f := fun s => s.responseTimerExpiry x) S (responseTimerExpiry_settled S x) h
    case gapEnd x => exact event_settled (f := fun s => s.gapEnd x) S (gapEnd_laws L x) h
    case probeTimerExpiry x => exact event_settled (f := fun s => s.probeTimerExpiry x) S (probeTimerExpiry_laws L x) h
    case mirrorAgeTick => exact quietEvent_settled S ⟨L.of_view s.mirrorAgeTick_lawView, st⟩ h
    case startOfTransmission => exact quietEvent_settled S (start_settled L) h
    case responseFrameEnd => exact quietEvent_settled S ⟨responseFrameEnd_laws L, responseFrameEnd_started st⟩ h
    case clashFrameEnd => exact quietEvent_settled S ⟨clashFrameEnd_laws L, clashFrameEnd_started st⟩ h
    case noticeFrameEnd => exact quietEvent_settled S ⟨noticeFrameEnd_laws L, noticeFrameEnd_started st⟩ h
    case spacingEnd => exact quietEvent_settled S ⟨spacingEnd_laws L, spacingEnd_started st⟩ h
    case repeatTimerExpiry => exact quietEvent_settled S ⟨repeatTimerExpiry_laws L, repeatTimerExpiry_started st⟩ h
    case resetAssert w => exact execResetAssert_settled S h
    case resetRelease =>
      cases h
      split
      · exact s.powerOn_settled
      · exact S
    case powerUp =>
      cases h
      exact s.powerOn_settled
    case receiverIdleGap l => exact event_settled (f := fun s => s.receiverIdleGap l) S (receiverIdleGap_laws L l) h
    case byteArrival l b => exact quietEvent_settled (f := fun s => s.byteArrival b l) S (byteArrival_settled S b l) h
    all_goals cases hq

theorem step_settled {s t : State} (S : s.Settled B) (h : step s = .next t) : t.Settled B := by
  unfold step at h
  split at h
  · cases h
    exact S
  · next c rest _ =>
    have S' : State.Settled B { s with pending := rest } := ⟨S.laws.of_view rfl, S.started⟩
    exact exec_settled S' h

/-- A state that meets the place law has no start of transmission left to make. -/
theorem State.started_of_placeLaw {s : State} (hp : s.placeLaw) : s.Started := by
  obtain ⟨_, _, _, _, _, _, _, _, _, _, _, _, hs⟩ := hp
  exact hs

/-- Settles O58: the laws hold of a state inside an event too, once the slots that an operation has in hand are told
from those in their places, and every operation of the model keeps that. -/
theorem everyStepKeepsEverySlotPlacedAndAccounted : Obligations.EveryStepKeepsEverySlotPlacedAndAccounted := by
  unfold Obligations.EveryStepKeepsEverySlotPlacedAndAccounted
  intro s t h hp ha
  have S : t.Settled False := step_settled ⟨laws_of_laws hp ha False.elim, started_of_placeLaw hp⟩ h
  exact ⟨S.laws.toPlaceLaw S.started, S.laws.toAccountLaw⟩

/-- Settles O59: the operations keep the hold law and the claim law together with the places and the accounts. -/
theorem everyStepKeepsHoldingsAndClaims : Obligations.EveryStepKeepsHoldingsAndClaims := by
  unfold Obligations.EveryStepKeepsHoldingsAndClaims
  intro s t h hp ha hh hc
  have S : t.Settled True := step_settled ⟨laws_of_laws hp ha fun _ => ⟨hh, hc⟩, started_of_placeLaw hp⟩ h
  exact ⟨S.laws.toHoldLaw trivial, S.laws.claims trivial⟩

end Sys2Proof.Machine

/-! # PROOFS. Requests that get no slot, and requests refused before or at the lookup (O16, O17, O20). -/

namespace Sys2Proof.Machine

variable {s : State} {q : Request}

/-! ## Requests that get no slot (R34, R35) -/

/-- A received request is counted, and the acceptance decision takes it (R33, R159). -/
theorem exec_of_receives (h : s.receives q) :
    exec .upstreamFrameEnd s = .next (s.readyRx.countFrame.accept q).start := upstreamFrameEnd_of_receives h

theorem State.accept_of_restart (h : s.mga.restart.isSome = true) :
    s.accept q = s.updCounters (fun c => { c with rxRestartDiscards := satInc c.rxRestartDiscards }) := by
  rw [State.accept, if_pos h]

theorem State.accept_of_occupied (hr : s.mga.restart = none) (ht : (s.slot q.tag).state ≠ .free) :
    s.accept q = s.clash q := by
  rw [State.accept, if_neg (by simp [hr]), if_pos ht]

theorem State.clash_of_room (h : s.ort.clashQueue.length < 4) :
    s.clash q = (s.raise nodeTagClash (halfNat q.tag)).pushClash
      { tag := q.tag, station := q.station, function := q.function } := by
  rw [State.clash, if_pos (show _ < Config.clashDepth from h)]

theorem State.clash_of_full (h : 4 ≤ s.ort.clashQueue.length) :
    s.clash q = (s.raise nodeTagClash (halfNat q.tag)).updCounters
      (fun c => { c with clashDrops := satInc c.clashDrops }) := by
  rw [State.clash, if_neg (show ¬ _ < Config.clashDepth from Nat.not_lt.2 h)]

/-- Settles O16: the restart window comes first, then the occupied tag, whose clash queue has room or has not. -/
theorem requestsThatGetNoSlot : Obligations.RequestsThatGetNoSlot := by
  unfold Obligations.RequestsThatGetNoSlot
  intro s q hrec
  refine ⟨fun hr => ⟨_, ?_, rfl⟩, fun hr ht hroom => ⟨_, ?_, rfl⟩, fun hr ht hfull => ⟨_, ?_, rfl⟩⟩
  · rw [exec_of_receives hrec, State.accept_of_restart (s := s.readyRx.countFrame) hr]
    rfl
  · rw [exec_of_receives hrec, State.accept_of_occupied (s := s.readyRx.countFrame) hr ht,
      State.clash_of_room (s := s.readyRx.countFrame) hroom]
    rfl
  · rw [exec_of_receives hrec, State.accept_of_occupied (s := s.readyRx.countFrame) hr ht,
      State.clash_of_full (s := s.readyRx.countFrame) hfull]
    rfl

/-! ## Requests refused before the lookup (R36, R37) -/

theorem State.accept_of_mgmtFull (ha : s.admits q.tag) (h127 : q.station = 127) (hk : s.freeMgmtBuf = none) :
    s.accept q = (s.occupy q .localAnswer none).respond q.tag .busy .mgmtFull .none := by
  simp only [State.accept, ha.1, ha.2, h127, State.toAgent, hk]
  rfl

theorem State.accept_of_invalid {rs : Reason} (ha : s.admits q.tag) (h127 : q.station ≠ 127)
    (hv : validation q = some rs) :
    s.accept q = (s.occupy q .localAnswer none).respond q.tag .badRequest rs .none := by
  simp only [State.accept, ha.1, ha.2, State.toStation, hv]
  simp [h127]

theorem badLength_iff (q : Request) : badLength q = true ↔
    ((q.function = 1 ∨ q.function = 4) ∧ q.payload ≠ []) ∨ (q.function ≠ 2 ∧ 240 < q.reqLen.toNat) := by
  simp only [badLength, Bool.or_eq_true, Bool.and_eq_true, decide_eq_true_eq, ne_eq, List.length_eq_zero_iff]
  rfl

theorem knownFunction_iff (f : Byte) : knownFunction f = true ↔ f = 1 ∨ f = 2 ∨ f = 3 ∨ f = 4 := by
  simp only [knownFunction, Bool.or_eq_true, decide_eq_true_eq, or_assoc]
  rfl

theorem validation_of_badLength (h : badLength q = true) : validation q = some .badLength := by
  rw [validation, if_pos h]

theorem validation_of_badBroadcast (hl : badLength q = false) (h0 : q.station = 0) (hf : q.function ≠ 2) :
    validation q = some .badBroadcast := by
  rw [validation, hl, if_neg (by simp), if_pos ⟨h0, hf⟩]

theorem validation_of_badFunction (hl : badLength q = false) (h0 : q.station ≠ 0)
    (hf : knownFunction q.function = false) : validation q = some .badFunction := by
  rw [validation, hl, if_neg (by simp), if_neg fun h => h0 h.1, hf]
  rfl

/-- An answer at once from a LOCAL slot with no entry, and nothing else (R28, R33). -/
theorem localRefusal_answers (s : State) (q : Request) (st : Status) (rs : Reason) :
    s.sameTables ((s.readyRx.countFrame.occupy q .localAnswer none).respond q.tag st rs .none)
      ∧ s.answers ((s.readyRx.countFrame.occupy q .localAnswer none).respond q.tag st rs .none) q.tag
          ((occupiedSlot q .localAnswer none).answered st rs .none) := by
  refine ⟨by simp [State.sameTables, State.sameButEntries, State.sameRest], ?_, ?_, fun v hv => ?_, ?_, ?_⟩
  · simp [State.received]
  · simp [Slot.answered]
  · simp [hv]
  · simp [State.sameBuffers]
  · simp [State.returns]

/-- Settles O17: a full pool of management buffers, and the three checks of R37 in their order. -/
theorem requestsRefusedBeforeLookup : Obligations.RequestsRefusedBeforeLookup := by
  unfold Obligations.RequestsRefusedBeforeLookup
  intro s q hrec hadm
  refine ⟨fun h127 hk => ⟨_, ?_, localRefusal_answers s q _ _⟩,
    fun h127 rs hbad => ⟨_, ?_, localRefusal_answers s q _ rs⟩⟩
  · rw [exec_of_receives hrec, State.accept_of_mgmtFull (s := s.readyRx.countFrame) hadm h127 hk]
  · rw [exec_of_receives hrec, State.accept_of_invalid (s := s.readyRx.countFrame) hadm h127]
    rcases hbad with ⟨hlen, rfl⟩ | ⟨⟨hpay, hreq⟩, hrest⟩
    · exact validation_of_badLength ((badLength_iff q).2 hlen)
    · have hl : badLength q = false := by
        rw [Bool.eq_false_iff, Ne, badLength_iff]
        rintro (⟨hf, hp⟩ | ⟨hf, hn⟩)
        · exact hp (hpay hf)
        · exact absurd hn (Nat.not_lt.2 (hreq hf))
      rcases hrest with ⟨h0, hf, rfl⟩ | ⟨h0, h1, h2, h3, h4, rfl⟩
      · exact validation_of_badBroadcast hl h0 hf
      · refine validation_of_badFunction hl h0 (Bool.eq_false_iff.2 fun hk => ?_)
        rcases (knownFunction_iff q.function).1 hk with h | h | h | h
        exacts [h1 h, h2 h, h3 h, h4 h]

/-! ## Misses (R39) -/

/-- A received request whose lookup finds no entry. -/
theorem exec_of_miss (h : s.reachesLookup q) (hl : s.lookup q = none) :
    exec .upstreamFrameEnd s = .next (s.readyRx.countFrame.miss q).start := by
  obtain ⟨hrec, hadm, h127, hval⟩ := h
  have haccept := accept_lookup (s := s.readyRx.countFrame) hadm h127 hval
  rw [show s.readyRx.countFrame.lookup q = s.lookup q from rfl, hl] at haccept
  rw [exec_of_receives hrec, haccept]

theorem State.miss_of_refuse (h : s.mga.missAction = .refuse) :
    s.miss q = ((s.raise nodeMiss (stationDetail q.station)).occupy q .localAnswer none).respond q.tag .refused .miss
      .none := by
  simp only [State.miss, h]

theorem State.miss_of_forward (h : s.mga.missAction = .forward) :
    s.miss q = (s.raise nodeMiss (stationDetail q.station)).forward q none := by
  simp only [State.miss, h]

/-- Settles O20, by the default miss action. -/
theorem missTakesTheDefaultAction : Obligations.MissTakesTheDefaultAction := by
  unfold Obligations.MissTakesTheDefaultAction
  intro s q hreach hl
  refine ⟨fun hm => ⟨_, exec_of_miss hreach hl, ?_⟩, fun hm => ?_⟩
  · rw [State.miss_of_refuse (s := s.readyRx.countFrame) hm]
    refine ⟨by simp [State.sameButNotices], ⟨?_, ?_, fun v hv => ?_, ?_, ?_⟩, by simp⟩
    · simp [State.received]
    · simp [Slot.answered]
    · simp [hv]
    · simp [State.sameBuffers]
    · simp [State.returns]
  · rw [exec_of_miss hreach hl, State.miss_of_forward (s := s.readyRx.countFrame) hm]

end Sys2Proof.Machine

/-! # PROOFS. The forward path: its refusals, and what a queued forward does (O24, O25). -/

namespace Sys2Proof.Machine
namespace State

variable {s : State} {q : Request} {e : Option EntryNo}

/-! ## The refusals of the forward path (R40 to R44) -/

theorem forwardOrigin_eq (e : Option EntryNo) : forwardOrigin e = if e.isSome then .steered else .missForward := by
  cases e <;> rfl

theorem route_of_broadcast (h0 : q.station = 0) : s.route q e = e.map (fun n => (s.entry n).broadcast) := by
  rw [route, if_pos h0]

theorem route_of_station {i : StationNo} (hi : stationOf i = q.station) : s.route q e = (s.station i).home := by
  have h0 : q.station ≠ 0 := by
    rw [← hi]
    exact Fin.ne_of_val_ne (by simp [stationOf])
  rw [route, if_neg h0, ← hi, stationRecordOf_stationOf]

theorem forward_of_noRoute (hr : s.route q e = none) : s.forward q e = s.refuseForward q e .noRoute .none := by
  simp only [forward, hr]

theorem forward_of_absent {x : Seg} (hr : s.route q e = some x) (ha : s.isAbsent q.station = true) :
    s.forward q e = s.refuseForward q e .absent .none := by
  simp only [forward, hr, if_pos ha]

theorem forward_of_down {x : Seg} (hr : s.route q e = some x) (ha : s.isAbsent q.station = false)
    (hx : (s.seg x).segState ≠ .enabled) : s.forward q e = s.refuseForward q e .segmentDown .none := by
  simp only [forward, hr, ha, Bool.false_eq_true, if_false, if_pos hx]

theorem forward_of_full {x : Seg} (hr : s.route q e = some x) (ha : s.isAbsent q.station = false)
    (hx : (s.seg x).segState = .enabled) (hq : 12 ≤ (s.seg x).queue.length) :
    s.forward q e = (s.refuseForward q e .busy .queueFull).raise (nodeQueueFull x) (stationDetail q.station) := by
  have hq : Config.queueDepth ≤ (s.seg x).queue.length := hq
  simp only [forward, hr, ha, Bool.false_eq_true, if_false, if_neg (not_not.2 hx), if_pos hq]

theorem forward_of_empty {x : Seg} (hr : s.route q e = some x) (ha : s.isAbsent q.station = false)
    (hx : (s.seg x).segState = .enabled) (hq : (s.seg x).queue.length < 12) (hk : s.freeFrameBuf = none) :
    s.forward q e = (s.refuseForward q e .busy .poolEmpty).raise nodePoolEmpty (stationDetail q.station) := by
  have hq : ¬ Config.queueDepth ≤ (s.seg x).queue.length := Nat.not_le.2 hq
  simp only [forward, hr, ha, Bool.false_eq_true, if_false, if_neg (not_not.2 hx), if_neg hq, hk]

theorem forward_of_queued {x : Seg} {k : Fin 24} (hr : s.route q e = some x) (ha : s.isAbsent q.station = false)
    (hx : (s.seg x).segState = .enabled) (hq : (s.seg x).queue.length < 12) (hk : s.freeFrameBuf = some k) :
    s.forward q e = (s.enqueue q e x k).dispatch x := by
  have hq : ¬ Config.queueDepth ≤ (s.seg x).queue.length := Nat.not_le.2 hq
  simp only [forward, hr, ha, Bool.false_eq_true, if_false, if_neg (not_not.2 hx), if_neg hq, hk]

/-- What a refused forward leaves: the slot and the return queue, and of the notice unit what the refusal raises. -/
def forwardRefused (s u : State) (q : Request) (e : Option EntryNo) (st : Status) (rs : Reason) (n : NoticeUnit) : Prop :=
  u.slot q.tag = (occupiedSlot q (if e.isSome then .steered else .missForward) e).answered st rs .none
    ∧ s.otherSlots u q.tag ∧ s.sameBuffers u ∧ s.returns u [q.tag] ∧ s.sameButNotices u
    ∧ u.counters = s.counters ∧ u.upRx = s.upRx ∧ u.resetAsserted = s.resetAsserted
    ∧ u.freeIndex = s.freeIndex ∧ u.pending = s.pending ∧ u.ntu = n

theorem refuseForward_refused (s : State) (q : Request) (e : Option EntryNo) (st : Status) (rs : Reason) :
    s.forwardRefused (s.refuseForward q e st rs) q e st rs s.ntu := by
  unfold refuseForward
  refine ⟨by simp [Slot.answered, forwardOrigin_eq], fun v hv => by simp [hv], by simp [sameBuffers],
    by simp [returns], by simp [sameButNotices], ?_⟩
  simp

/-- A refusal that raises an event. -/
theorem forwardRefused.raise {u : State} {st : Status} {rs : Reason} (h : s.forwardRefused u q e st rs s.ntu)
    (k : NodeNo) (w : Half) : s.forwardRefused (u.raise k w) q e st rs (s.ntu.raise k w) := by
  obtain ⟨hslot, hother, hbuf, hret, hsame, hc, hrx, hra, hfi, hp, hn⟩ := h
  exact ⟨hslot, hother, hbuf, hret, hsame, hc, hrx, hra, hfi, hp, congrArg (fun n => n.raise k w) hn⟩

end State

open State

/-- Settles O24, check by check. -/
theorem forwardPathRefusesInOrder : Obligations.ForwardPathRefusesInOrder := by
  unfold Obligations.ForwardPathRefusesInOrder
  rintro s q e route _ hroute u st rs rfl hcase
  have hr : s.route q e = route := by
    rcases hroute with ⟨h0, rfl⟩ | ⟨i, hi, rfl⟩
    · exact route_of_broadcast h0
    · exact route_of_station hi
  have hrefused := s.refuseForward_refused q e st rs
  rcases hcase with ⟨hnone, rfl, rfl⟩ | ⟨x, hsome, hcase⟩
  · subst hnone
    rw [forward_of_noRoute hr]
    exact hrefused
  · subst hsome
    rcases hcase with ⟨⟨i, hi, habs⟩, rfl, rfl⟩ | ⟨hpresent, hcase⟩
    · rw [forward_of_absent hr (s.isAbsent_true hi habs)]
      exact hrefused
    · have ha := s.isAbsent_false hpresent
      rcases hcase with ⟨hx, rfl, rfl⟩ | ⟨hx, hcase⟩
      · rw [forward_of_down hr ha hx]
        exact hrefused
      · rcases hcase with ⟨hq, rfl, rfl⟩ | ⟨hq, hk, rfl, rfl⟩
        · rw [forward_of_full hr ha hx hq]
          exact hrefused.raise _ _
        · rw [forward_of_empty hr ha hx hq hk]
          exact hrefused.raise _ _

/-! ## What a queued forward does to a MIRROR record (R45 step 5, R68, R69) -/

namespace State

/-- Whether a queued forward takes the claim of a MIRROR record (R68, R69). -/
def takesClaim (s : State) (q : Request) (r : RecordNo) : Prop :=
  q.position = 0
    ∧ (q.function = 1 ∧ (s.record r).mirrorState = .invalid ∧ (s.record r).claim = none
        ∧ q.reqLen.toNat = (s.record r).length
      ∨ q.function = 2 ∧ q.payload.length = (s.record r).length)

/-- What a queued forward leaves of the slots and the records, when it is on the account of a MIRROR record or of
none; `claims` says whether its slot takes the claim. -/
structure MirrorQueued (s u : State) (q : Request) (mirror : Option RecordNo) (claims : Bool) : Prop where
  own     : u.slot q.tag = { s.slot q.tag with fillClaim := claims }
  others  : ∀ r, mirror ≠ some r → u.record r = s.record r
  record  : ∀ r, mirror = some r → u.record r =
    (if q.function = 2 ∨ q.function = 3 then { s.record r with
        mirrorState := .invalid, age := 0, claim := if claims then some q.tag else none }
      else if claims then { s.record r with claim := some q.tag } else s.record r)
  dropped : ∀ t, t ≠ q.tag → u.slot t = if (∃ r, mirror = some r ∧ (s.record r).claim = some t)
    ∧ (q.function = 2 ∨ q.function = 3) then { s.slot t with fillClaim := false } else s.slot t

theorem dropClaim_invalidated_record (s : State) (r n : RecordNo) :
    ((s.updRecord r Record.invalidate).dropClaim r).record n
      = if n = r then { s.record r with mirrorState := .invalid, age := 0, claim := none } else s.record n := by
  by_cases hn : n = r
  · subst hn; simp [dropClaim_record, Record.invalidate]
  · simp [dropClaim_record, hn]

theorem takeClaim_invalidated_record (s : State) (r : RecordNo) (t : Tag) (n : RecordNo) :
    ((s.updRecord r Record.invalidate).takeClaim r t).record n
      = if n = r then { s.record r with mirrorState := .invalid, age := 0, claim := some t } else s.record n := by
  by_cases hn : n = r
  · subst hn; simp [takeClaim_record, Record.invalidate]
  · simp [takeClaim_record, hn]

theorem dropClaim_invalidated_slot (s : State) (r : RecordNo) (v : Tag) :
    ((s.updRecord r Record.invalidate).dropClaim r).slot v
      = if (s.record r).claim = some v then { s.slot v with fillClaim := false } else s.slot v := by
  simp [dropClaim_slot, Record.invalidate]

/-- No record's actions: the request names none, or only reads or pings past it. -/
theorem mirrorQueued_nothing (s : State) (q : Request) {mirror : Option RecordNo}
    (hf : (s.slot q.tag).fillClaim = false) (hm : mirror = none ∨ q.function ≠ 2 ∧ q.function ≠ 3) :
    s.MirrorQueued s q mirror false where
  own     := by rw [← hf]
  others  := fun _ _ => rfl
  record  := fun r hr => by
    rcases hm with rfl | ⟨h2, h3⟩
    · cases hr
    · rw [if_neg (not_or.2 ⟨h2, h3⟩)]; rfl
  dropped := fun t _ => by
    rw [if_neg]
    rintro ⟨⟨r, hr, _⟩, hfun⟩
    rcases hm with rfl | ⟨h2, h3⟩
    · cases hr
    · exact hfun.elim h2 h3

/-- A WRITE or EXCHANGE of a MIRROR record that takes no claim. -/
theorem mirrorQueued_drops (s : State) (q : Request) (r : RecordNo) (hf : (s.slot q.tag).fillClaim = false)
    (hfree : (s.record r).claim ≠ some q.tag) (hfun : q.function = 2 ∨ q.function = 3) :
    s.MirrorQueued ((s.updRecord r Record.invalidate).dropClaim r) q (some r) false where
  own     := by rw [dropClaim_invalidated_slot, if_neg hfree, ← hf]
  others  := fun n hn => by rw [dropClaim_invalidated_record, if_neg fun h => hn (by rw [h])]
  record  := fun n hn => by
    obtain rfl := Option.some.inj hn
    rw [dropClaim_invalidated_record, if_pos rfl, if_pos hfun]; rfl
  dropped := fun t _ => by
    simp only [dropClaim_invalidated_slot, hfun, and_true, Option.some.injEq, exists_eq_left']

/-- A WRITE of a MIRROR record that takes its claim. -/
theorem mirrorQueued_writes (s : State) (q : Request) (r : RecordNo) (hfun : q.function = 2) :
    s.MirrorQueued ((s.updRecord r Record.invalidate).takeClaim r q.tag) q (some r) true where
  own     := by rw [takeClaim_slot, if_pos rfl]; rfl
  others  := fun n hn => by rw [takeClaim_invalidated_record, if_neg fun h => hn (by rw [h])]
  record  := fun n hn => by
    obtain rfl := Option.some.inj hn
    rw [takeClaim_invalidated_record, if_pos rfl, if_pos (.inl hfun)]; rfl
  dropped := fun t ht => by rw [takeClaim_slot, if_neg ht, dropClaim_invalidated_slot]; simp [hfun]

/-- A READ of a MIRROR record that takes its claim. -/
theorem mirrorQueued_reads (s : State) (q : Request) (r : RecordNo) (hnone : (s.record r).claim = none)
    (hfun : q.function = 1) : s.MirrorQueued (s.takeClaim r q.tag) q (some r) true where
  own     := by rw [takeClaim_slot, if_pos rfl]
  others  := fun n hn => by rw [takeClaim_record, if_neg fun h => hn (by rw [h])]
  record  := fun n hn => by
    obtain rfl := Option.some.inj hn
    rw [takeClaim_record, if_pos rfl, if_neg (by rw [hfun]; decide)]; rfl
  dropped := fun t ht => by rw [takeClaim_slot, if_neg ht, dropClaim_slot]; simp [hnone]

theorem mirrorQueued_effect (s : State) (q : Request) (r : RecordNo) {claims : Bool}
    (hc : claims = true ↔ s.takesClaim q r) (hf : (s.slot q.tag).fillClaim = false)
    (hfree : (s.record r).claim ≠ some q.tag) : s.MirrorQueued (s.mirrorQueued r q) q (some r) claims := by
  have hfalse (h : ¬ s.takesClaim q r) : claims = false := Bool.eq_false_iff.2 fun hb => h (hc.1 hb)
  unfold mirrorQueued
  by_cases h1 : q.function = 1
  · have h2 : q.function ≠ 2 := by rw [h1]; decide
    have h3 : q.function ≠ 3 := by rw [h1]; decide
    rw [if_pos (show q.function = fnRead from h1)]
    split
    · next hcond =>
      obtain ⟨hinv, hnone, hpos, hlen⟩ := hcond
      rw [hc.2 ⟨hpos, .inl ⟨h1, hinv, hnone, hlen⟩⟩]
      exact s.mirrorQueued_reads q r hnone h1
    · next hcond =>
      rw [hfalse]
      · exact s.mirrorQueued_nothing q hf (.inr ⟨h2, h3⟩)
      · rintro ⟨hpos, ⟨_, hinv, hnone, hlen⟩ | ⟨hw, _⟩⟩
        · exact hcond ⟨hinv, hnone, hpos, hlen⟩
        · exact h2 hw
  · rw [if_neg (show q.function ≠ fnRead from h1)]
    by_cases h2 : q.function = 2
    · rw [if_pos (show q.function = fnWrite from h2)]
      split
      · next hcond =>
        obtain ⟨hpos, hlen⟩ := hcond
        rw [hc.2 ⟨hpos, .inr ⟨h2, hlen⟩⟩]
        exact s.mirrorQueued_writes q r h2
      · next hcond =>
        rw [hfalse]
        · exact s.mirrorQueued_drops q r hf hfree (.inl h2)
        · rintro ⟨hpos, ⟨hr, _⟩ | ⟨_, hlen⟩⟩
          · exact h1 hr
          · exact hcond ⟨hpos, hlen⟩
    · rw [if_neg (show q.function ≠ fnWrite from h2), hfalse fun h => h.2.elim (fun h => h1 h.1) fun h => h2 h.1]
      by_cases h3 : q.function = 3
      · rw [if_pos (show q.function = fnExchange from h3)]
        exact s.mirrorQueued_drops q r hf hfree (.inr h3)
      · rw [if_neg (show q.function ≠ fnExchange from h3)]
        exact s.mirrorQueued_nothing q hf (.inr ⟨h2, h3⟩)

/-! ## What a queued forward does (R11, R45, R47) -/

theorem attach_slot (s : State) (t v : Tag) (n : EntryNo) :
    (s.attach t n).slot v = if v = t then { s.slot t with attached := true } else s.slot v := by
  by_cases hv : v = t <;> simp [attach, hv]

theorem attach_entry (s : State) (t : Tag) (n m : EntryNo) : (s.attach t n).entry m
    = if m = n then { s.entry m with inFlight := (s.entry m).inFlight + 1 } else s.entry m := by
  by_cases hm : m = n <;> simp [attach, hm]

theorem takeClaim_store (s : State) (r : RecordNo) (t : Tag) : (s.takeClaim r t).rst.store = s.rst.store :=
  s.dropClaim_store r

theorem mirrorQueued_store (s : State) (r : RecordNo) (q : Request) :
    (s.mirrorQueued r q).rst.store = s.rst.store := by
  have hinv : (s.updRecord r Record.invalidate).rst.store = s.rst.store := rfl
  unfold mirrorQueued
  repeat' split
  · exact s.takeClaim_store r q.tag
  · rfl
  · exact (takeClaim_store _ r q.tag).trans hinv
  · exact (dropClaim_store _ r).trans hinv
  · exact (dropClaim_store _ r).trans hinv
  · rfl

theorem onAccount_store (s : State) (q : Request) (e : Option EntryNo) :
    (s.onAccount q e).rst.store = s.rst.store := by
  unfold onAccount
  split
  · rfl
  · split
    · rfl
    · exact mirrorQueued_store _ _ q

/-- A queued slot, attached to its entry when it has one (R45 step 4). -/
def onEntry (s : State) (t : Tag) : Option EntryNo → State
  | none => s
  | some n => s.attach t n

theorem onEntry_slot (s : State) (t v : Tag) (e : Option EntryNo) (h : (s.slot t).attached = false) :
    (s.onEntry t e).slot v = if v = t then { s.slot t with attached := e.isSome } else s.slot v := by
  cases e with
  | none =>
    by_cases hv : v = t
    · subst hv
      rw [if_pos rfl, Option.isSome_none, ← h]
      rfl
    · rw [if_neg hv]
      rfl
  | some n => exact s.attach_slot t v n

theorem onEntry_entry (s : State) (t : Tag) (e : Option EntryNo) (n : EntryNo) : (s.onEntry t e).entry n
    = if e = some n then { s.entry n with inFlight := (s.entry n).inFlight + 1 } else s.entry n := by
  cases e with
  | none => rfl
  | some m => exact (s.attach_entry t m n).trans (by simp [eq_comm])

theorem onEntry_record (s : State) (t : Tag) (e : Option EntryNo) (r : RecordNo) :
    (s.onEntry t e).record r = s.record r := by cases e <;> rfl

/-- The account step in its two parts: the entry, then its MIRROR record. -/
theorem onAccount_entry (s : State) (q : Request) (e : Option EntryNo) (n : EntryNo) :
    (s.onAccount q e).entry n = (s.onEntry q.tag e).entry n := by
  cases e with
  | none => rfl
  | some m =>
    cases h : (s.entry m).action.mirror? with
    | none => simp only [onAccount, onEntry, h]
    | some r => simp only [onAccount, onEntry, h, mirrorQueued_entry]

theorem onAccount_mirror (s : State) (q : Request) (e : Option EntryNo) {claims : Bool}
    (hc : claims = true ↔ ∃ r, e.bind (fun n => (s.entry n).action.mirror?) = some r ∧ s.takesClaim q r)
    (hatt : (s.slot q.tag).attached = false) (hf : (s.slot q.tag).fillClaim = false)
    (hfree : ∀ r, (s.record r).claim ≠ some q.tag) :
    (s.onEntry q.tag e).MirrorQueued (s.onAccount q e) q (e.bind fun n => (s.entry n).action.mirror?) claims := by
  have hf' : ((s.onEntry q.tag e).slot q.tag).fillClaim = false := by
    rw [onEntry_slot s q.tag q.tag e hatt, if_pos rfl]; exact hf
  have hnone (h : e.bind (fun n => (s.entry n).action.mirror?) = none) : claims = false := by
    rw [h] at hc
    exact Bool.eq_false_iff.2 fun hb => by obtain ⟨r, hr, _⟩ := hc.1 hb; cases hr
  cases e with
  | none =>
    rw [hnone rfl]
    exact s.mirrorQueued_nothing q hf (.inl rfl)
  | some m =>
    cases h : (s.entry m).action.mirror? with
    | none =>
      rw [hnone h]
      simp only [onAccount, h]
      exact (s.attach q.tag m).mirrorQueued_nothing q hf' (.inl h)
    | some r =>
      simp only [onAccount, h]
      rw [show (some m).bind (fun n => (s.entry n).action.mirror?) = some r from h] at hc ⊢
      refine (s.attach q.tag m).mirrorQueued_effect q r (hc.trans ?_) hf' (hfree r)
      simp only [Option.some.injEq, exists_eq_left']
      rfl

theorem queueUp_seg (s : State) (q : Request) (e : Option EntryNo) (x y : Seg) (k : Fin 24) : (s.queueUp q e x k).seg y
    = if y = x then { s.seg x with queue := (s.seg x).queue ++ [q.tag] } else s.seg y := by
  by_cases hy : y = x <;> simp [queueUp, hy]

theorem queueUp_entry (s : State) (q : Request) (e : Option EntryNo) (x : Seg) (k : Fin 24) (n : EntryNo) :
    (s.queueUp q e x k).entry n = s.entry n := by simp [queueUp]

theorem queueUp_record (s : State) (q : Request) (e : Option EntryNo) (x : Seg) (k : Fin 24) (r : RecordNo) :
    (s.queueUp q e x k).record r = s.record r := by simp [queueUp]

theorem queuedSlot_eq (q : Request) (e : Option EntryNo) (x : Seg) (k : Fin 24) : queuedSlot q e x k
    = { occupiedSlot q (if e.isSome then .steered else .missForward) e with
        state := .queued, segment := some x, frameBuf := some k } := by
  rw [queuedSlot, forwardOrigin_eq]

end State

/-- Settles O25: the forward reaches `State.enqueue`, whose account step is the entry's attachment and then the MIRROR
record's actions. -/
theorem forwardIsQueued : Obligations.ForwardIsQueued := by
  unfold Obligations.ForwardIsQueued
  intro s q e x k hr ha hx hq hk hfree
  refine ⟨s.enqueue q e x k, forward_of_queued hr ha hx hq hk, ?_, fun y hy => ?_, fun j => ?_, ?_, ?_, fun n => ?_, ?_, ?_, ?_, ?_, ?_, ?_,
    ?_, ?_, ?_, ?_, fun claims mirror hm hc => ?_⟩
  · rw [enqueue_eq, onAccount_seg, queueUp_seg, if_pos rfl]
  · rw [enqueue_eq, onAccount_seg, queueUp_seg, if_neg hy]
  · rw [enqueue_eq, onAccount_frameBuffers, queueUp_buffer]
    by_cases hj : j = k
    · rw [if_pos hj, if_pos hj, hj]
    · rw [if_neg hj, if_neg hj]
  · simp [enqueue_eq, queueUp, writeFrameBuffer]
  · simp [enqueue_eq, queueUp, writeFrameBuffer]
  · rw [enqueue_eq, onAccount_entry, onEntry_entry, queueUp_entry]
  · rw [enqueue_eq, onAccount_store, queueUp, updSeg_rst]
    rfl
  · simp [enqueue_eq, queueUp]
  · simp [enqueue_eq, queueUp]
  · simp [enqueue_eq, queueUp]
  · simp [enqueue_eq, queueUp]
  · simp [enqueue_eq, queueUp]
  · simp [enqueue_eq, queueUp]
  · simp [enqueue_eq, queueUp]
  · simp [enqueue_eq, queueUp]
  · simp [enqueue_eq, queueUp]
  · have hself : (s.queueUp q e x k).slot q.tag = queuedSlot q e x k := by rw [queueUp_slot, if_pos rfl]
    have hmirror : e.bind (fun n => ((s.queueUp q e x k).entry n).action.mirror?) = mirror := by
      rw [hm]; simp only [queueUp_entry]
    have hatt : ((s.queueUp q e x k).slot q.tag).attached = false := by rw [hself]; rfl
    have M := (s.queueUp q e x k).onAccount_mirror q e (claims := claims)
      (by rw [hmirror]; simpa only [takesClaim, queueUp_record] using hc) hatt
      (by rw [hself]; rfl) (by simpa only [queueUp_record] using hfree)
    rw [hmirror] at M
    have hslot (v) := (s.queueUp q e x k).onEntry_slot q.tag v e hatt
    have hrecord (r) : ((s.queueUp q e x k).onEntry q.tag e).record r = s.record r := by
      rw [onEntry_record, queueUp_record]
    obtain ⟨hown, hothers, hrecords, hdropped⟩ := M
    refine ⟨?_, fun r hr => ?_, fun r hr => ?_, fun t ht => ?_⟩
    · rw [enqueue_eq, hown, hslot, if_pos rfl, hself, queuedSlot_eq]
    · rw [enqueue_eq, hothers r hr, hrecord]
    · rw [enqueue_eq, hrecords r hr, hrecord]
    · rw [enqueue_eq, hdropped t ht, hslot, if_neg ht, queueUp_slot, if_neg ht]
      simp only [hrecord]

end Sys2Proof.Machine

/-! # PROOFS. Changes of the state that keep the reply store's laws (O55). -/

namespace Sys2Proof.Machine

/-! ## Regions (R53) -/

/-- The written fields that say where a record's region is (R53). -/
def Record.place (rc : Record) : RecordKind × Nat × Nat × Nat := (rc.kind, rc.base, rc.length, rc.total)

/-- Records of one place have one kind, one base and one size. -/
theorem Record.region_of_place {a b : Record} (h : a.place = b.place) :
    a.kind = b.kind ∧ a.base = b.base ∧ a.size = b.size := by
  simp only [place, Prod.mk.injEq] at h
  obtain ⟨hkind, hbase, hlength, htotal⟩ := h
  exact ⟨hkind, hbase, by rw [size, size, hkind, hlength, htotal]⟩

theorem regionsOverlap_of_place {a a' b b' : Record} (ha : a'.place = a.place) (hb : b'.place = b.place) :
    regionsOverlap a' b' = regionsOverlap a b := by
  obtain ⟨_, habase, hasize⟩ := Record.region_of_place ha
  obtain ⟨_, hbbase, hbsize⟩ := Record.region_of_place hb
  rw [regionsOverlap, regionsOverlap, habase, hasize, hbbase, hbsize]

theorem regionsOverlap_comm (a b : Record) : regionsOverlap a b = regionsOverlap b a := by
  rw [Bool.eq_iff_iff, regionsOverlap_iff, regionsOverlap_iff]
  exact exists_congr fun x => ⟨fun ⟨h1, h2, h3, h4⟩ => ⟨h3, h4, h1, h2⟩,
    fun ⟨h1, h2, h3, h4⟩ => ⟨h3, h4, h1, h2⟩⟩

theorem regionsOverlap_of_overlapsOther {s : State} {n m : RecordNo} {new : Record}
    (h : s.overlapsOther n new = false) (hm : m ≠ n) : regionsOverlap new (s.record m) = false := by
  rw [State.overlapsOther, List.any_eq_false] at h
  simpa [hm] using h m (by simp [indexes])

/-! ## The law of one record (R54, R66, R70) -/

namespace Record

variable {rc : Record}

/-- Only a MIRROR record has a claim (R54, R70). -/
theorem kind_of_claim {t : Tag} (h : rc.law) (hc : rc.claim = some t) : rc.kind = .mirror := by
  obtain ⟨_, _, hmirror, _, _⟩ := h
  by_contra hk
  rw [(hmirror hk).2] at hc
  cases hc

/-- A claim given up. -/
theorem law_unclaimed (h : rc.law) : ({ rc with claim := none } : Record).law := by
  obtain ⟨hstream, hother, hmirror, hage, _⟩ := h
  exact ⟨hstream, hother, fun hk => ⟨(hmirror hk).1, rfl⟩, hage, fun hc => by cases hc⟩

/-- A claim taken, which only an INVALID MIRROR record gives. -/
theorem law_claimed (h : rc.law) (hk : rc.kind = .mirror) (hi : rc.mirrorState = .invalid) (t : Tag) :
    ({ rc with claim := some t } : Record).law := by
  obtain ⟨hstream, hother, _, hage, _⟩ := h
  exact ⟨hstream, hother, fun hn => absurd hk hn, hage, fun _ => hi⟩

theorem law_invalidate (h : rc.law) : rc.invalidate.law := by
  obtain ⟨hstream, hother, hmirror, _, _⟩ := h
  exact ⟨hstream, hother, fun hk => ⟨rfl, (hmirror hk).2⟩, fun _ => rfl, fun _ => rfl⟩

/-- A MIRROR record loaded as a whole, with its claim cleared. -/
theorem law_validated (h : rc.law) (hk : rc.kind = .mirror) : ({ rc.validate with claim := none } : Record).law := by
  obtain ⟨hstream, hother, _, _, _⟩ := h
  exact ⟨hstream, hother, fun hn => absurd hk hn, nofun, nofun⟩

/-- The cursor moves past bytes that remain; without any it stays. -/
theorem law_advance {n : Nat} (h : rc.law) (hn : n ≤ rc.remaining) : (rc.advance n).law := by
  obtain ⟨hstream, hother, hmirror, hage, hclaim⟩ := h
  refine ⟨fun hk => ?_, fun hk => ?_, hmirror, hage, hclaim⟩
  · have := hstream hk
    simp only [advance]
    omega
  · obtain ⟨hcursor, hremaining⟩ := hother hk
    simp only [advance]
    omega

theorem law_rewind (h : rc.law) (hk : rc.kind = .stream) :
    ({ rc with cursor := 0, remaining := rc.total } : Record).law := by
  obtain ⟨_, _, hmirror, hage, hclaim⟩ := h
  exact ⟨fun _ => Nat.zero_add _, fun hn => absurd hk hn, hmirror, hage, hclaim⟩

theorem law_tick (h : rc.law) : rc.tick.law := by
  unfold tick
  split
  · next hv =>
    obtain ⟨hstream, hother, hmirror, _, hclaim⟩ := h
    exact ⟨hstream, hother, hmirror, fun hi => by simp [hv.2] at hi, hclaim⟩
  · exact h

theorem tick_place (rc : Record) : rc.tick.place = rc.place := by
  unfold tick
  split <;> rfl

end Record

/-- A descriptor is written with its stream rewound and its mirror INVALID, and only a STREAM record has a total
(R54, R56). -/
theorem descriptorOf_rewound {p : List Byte} {new : Record} (h : descriptorOf p = some new) :
    new.cursor = 0 ∧ new.remaining = new.total ∧ new.mirrorState = .invalid ∧ new.age = 0
      ∧ (new.kind ≠ .stream → new.total = 0) := by
  unfold descriptorOf at h
  dsimp only at h
  repeat' split at h
  all_goals simp only [Option.some.injEq, reduceCtorEq] at h
  all_goals
    subst h
    exact ⟨rfl, rfl, rfl, rfl, by simp⟩

theorem descriptorOf_law {p : List Byte} {new : Record} (h : descriptorOf p = some new) : new.law := by
  obtain ⟨hcursor, hremaining, hstate, hage, htotal⟩ := descriptorOf_rewound h
  obtain ⟨hclaim, _⟩ := descriptorOf_kept h
  refine ⟨fun _ => ?_, fun hk => ⟨hcursor, ?_⟩, fun _ => ⟨hstate, hclaim⟩, fun _ => hage, fun _ => hstate⟩
  · rw [hcursor, hremaining, Nat.zero_add]
  · rw [hremaining, htotal hk]

/-! ## Changes that keep the laws -/

/-- A change of the state keeps the store law, the region law and the record law. -/
structure State.KeepsStore (s t : State) : Prop where
  store  : s.storeLaw → t.storeLaw
  region : s.regionLaw → t.regionLaw
  record : s.recordLaw → t.recordLaw

namespace State

/-- The record that a valid MIRROR entry names is of kind MIRROR (R57). -/
theorem kind_of_mirror {s : State} {e : EntryNo} {r : RecordNo} (h : s.recordLaw) (hv : (s.entry e).valid = true)
    (ha : (s.entry e).action = .mirror r) : (s.record r).kind = .mirror := by
  have := h.2 e r hv (by rw [ha]; rfl)
  rwa [ha] at this

namespace KeepsStore

variable {s t u : State}

theorem refl (s : State) : s.KeepsStore s := ⟨id, id, id⟩

theorem trans (h : s.KeepsStore t) (h' : t.KeepsStore u) : s.KeepsStore u :=
  ⟨h'.store ∘ h.store, h'.region ∘ h.region, h'.record ∘ h.record⟩

/-- A change that keeps every region, every record's law and what every entry refers to. -/
theorem of_parts (hent : ∀ e, (t.entry e).valid = (s.entry e).valid ∧ (t.entry e).action = (s.entry e).action)
    (hstore : s.storeLaw → t.storeLaw) (hplace : ∀ r, (t.record r).place = (s.record r).place)
    (hlaw : s.recordLaw → ∀ r, (t.record r).law) : s.KeepsStore t := by
  refine ⟨hstore, fun ⟨hin, hdisjoint⟩ => ⟨fun r => ?_, fun a b hab => ?_⟩,
    fun h => ⟨hlaw h, fun e r hv ha => ?_⟩⟩
  · obtain ⟨_, hbase, hsize⟩ := Record.region_of_place (hplace r)
    rw [hbase, hsize]
    exact hin r
  · rw [regionsOverlap_of_place (hplace a) (hplace b)]
    exact hdisjoint a b hab
  · obtain ⟨hvalid, haction⟩ := hent e
    rw [hvalid] at hv
    rw [haction] at ha ⊢
    rw [(Record.region_of_place (hplace r)).1]
    exact h.2 e r hv ha

/-- A change of the reply store that keeps every region, and every record's law. -/
theorem of_records (hent : t.entries = s.entries) (hstore : s.storeLaw → t.storeLaw)
    (hplace : ∀ r, (t.record r).place = (s.record r).place) (hlaw : s.recordLaw → ∀ r, (t.record r).law) :
    s.KeepsStore t :=
  of_parts (fun e => by rw [State.entry, hent]; exact ⟨rfl, rfl⟩) hstore hplace hlaw

/-- A change of one record that keeps its region and its law. -/
theorem of_record {r : RecordNo} {f : Record → Record} (hent : t.entries = s.entries)
    (hstore : t.rst.store = s.rst.store) (hrecord : ∀ n, t.record n = if n = r then f (s.record n) else s.record n)
    (hplace : (f (s.record r)).place = (s.record r).place) (hlaw : s.recordLaw → (f (s.record r)).law) :
    s.KeepsStore t := by
  refine of_records hent (fun h => by rwa [storeLaw, hstore]) (fun n => ?_) fun h n => ?_
  · rw [hrecord]
    split
    · next hn => rw [hn, hplace]
    · rfl
  · rw [hrecord]
    split
    · next hn => rw [hn]; exact hlaw h
    · exact h.1 n

/-- A change of entries that leaves every entry's reference as it was. -/
theorem of_entries (hrst : t.rst = s.rst)
    (hent : ∀ e, (t.entry e).valid = (s.entry e).valid ∧ (t.entry e).action = (s.entry e).action) :
    s.KeepsStore t := by
  have hrecord (r) : t.record r = s.record r := by rw [State.record, hrst]; rfl
  refine of_parts hent (fun h => by rwa [storeLaw, hrst]) (fun r => by rw [hrecord]) fun h r => ?_
  rw [hrecord]
  exact h.1 r

/-- A change outside the reply store and the steering table. -/
theorem of_same (h : t.rst = s.rst ∧ t.entries = s.entries) : s.KeepsStore t :=
  of_entries h.1 fun e => by rw [State.entry, h.2]; exact ⟨rfl, rfl⟩

/-- A change that keeps the laws, before one outside the reply store and the steering table. -/
theorem then_same (h : s.KeepsStore t) (hsame : u.rst = t.rst ∧ u.entries = t.entries) : s.KeepsStore u :=
  h.trans (of_same hsame)

/-- A change that keeps the laws, after one outside the reply store and the steering table. -/
theorem after_same (hsame : t.rst = s.rst ∧ t.entries = s.entries) (h : t.KeepsStore u) : s.KeepsStore u :=
  (of_same hsame).trans h

end KeepsStore

variable (s : State)

/-! ## Changes of other parts of the state -/

theorem updSeg_keepsStore (x : Seg) (f : Segment → Segment) : s.KeepsStore (s.updSeg x f) := .of_same (by simp)
theorem raise_keepsStore (k : NodeNo) (d : Half) : s.KeepsStore (s.raise k d) := .of_same (by simp)
theorem start_keepsStore : s.KeepsStore s.start := .of_same (by simp)
theorem capture_keepsStore (q : Request) (v : List Byte) : s.KeepsStore (s.capture q v) := .of_same (by simp)
theorem beginWait_keepsStore (t : Tag) (c : WaitingCommand) : s.KeepsStore (s.beginWait t c) := .of_same (by simp)
theorem overtake_keepsStore (t : Tag) (c : CommandObject) : s.KeepsStore (s.overtake t c) := .of_same (by simp)

/-! ## Records and claims (R58, R66, R70 to R72) -/

theorem updRecord_keepsStore {r : RecordNo} {f : Record → Record}
    (hplace : (f (s.record r)).place = (s.record r).place) (hlaw : (s.record r).law → (f (s.record r)).law) :
    s.KeepsStore (s.updRecord r f) :=
  .of_record rfl rfl (fun n => s.updRecord_record r n f) hplace fun h => hlaw (h.1 r)

theorem invalidate_keepsStore (r : RecordNo) : s.KeepsStore (s.updRecord r Record.invalidate) :=
  s.updRecord_keepsStore rfl Record.law_invalidate

/-- The laws do not speak of pins. -/
theorem updPins_keepsStore (r : RecordNo) (f : Nat → Nat) :
    s.KeepsStore (s.updRecord r (fun rc => { rc with pins := f rc.pins })) :=
  s.updRecord_keepsStore rfl fun h => h

theorem writeStore_keepsStore (a : Nat) (bs : List Byte) : s.KeepsStore (s.writeStore a bs) :=
  .of_records rfl (Memory.wf_writeRun bs a) (fun _ => rfl) fun h => h.1

theorem dropClaim_keepsStore (r : RecordNo) : s.KeepsStore (s.dropClaim r) :=
  .of_record (f := fun rc => { rc with claim := none }) (by simp) (s.dropClaim_store r) (s.dropClaim_record r) rfl
    fun h => Record.law_unclaimed (h.1 r)

theorem takeClaim_keepsStore {r : RecordNo} (t : Tag)
    (h : s.recordLaw → (s.record r).kind = .mirror ∧ (s.record r).mirrorState = .invalid) :
    s.KeepsStore (s.takeClaim r t) := by
  refine .of_record (r := r) (f := fun rc => { rc with claim := some t }) (by simp) (s.takeClaim_store r t)
    (fun n => ?_) rfl fun hs => ?_
  · rw [takeClaim_record]
    split
    · next hn => rw [hn]
    · rfl
  · obtain ⟨hk, hi⟩ := h hs
    exact Record.law_claimed (hs.1 r) hk hi t

/-- A MIRROR record becomes VALID and its claim is cleared (R60, R71). -/
theorem validate_dropClaim_keepsStore {r : RecordNo} (hk : s.recordLaw → (s.record r).kind = .mirror) :
    s.KeepsStore ((s.updRecord r Record.validate).dropClaim r) := by
  refine .of_record (r := r) (f := fun rc => { rc.validate with claim := none }) (by simp) (dropClaim_store _ r)
    (fun n => ?_) rfl fun hs => Record.law_validated (hs.1 r) (hk hs)
  by_cases hn : n = r <;> simp [dropClaim_record, hn]

variable {s} in
theorem claim_of_claimedRecord {t : Tag} {r : RecordNo} (h : s.claimedRecord t = some r) :
    (s.record r).claim = some t := by
  unfold claimedRecord at h
  split at h
  · simpa using (find?_indexes_eq_some.1 h).1
  · cases h

theorem fill_keepsStore {t : Tag} {r : RecordNo} (hc : (s.record r).claim = some t) : s.KeepsStore (s.fill t r) := by
  have hwrite := s.writeStore_keepsStore (s.record r).base ((s.slotBuffer t).take (s.record r).length)
  exact (hwrite.trans (validate_dropClaim_keepsStore _ fun h => Record.kind_of_claim (h.1 r) hc)).then_same ⟨rfl, rfl⟩

theorem settleClaim_keepsStore (t : Tag) (st : Status) : s.KeepsStore (s.settleClaim t st) := by
  unfold settleClaim
  split
  · exact .refl s
  · next r hr =>
    split
    · split
      · exact s.fill_keepsStore (claim_of_claimedRecord hr)
      · exact (s.dropClaim_keepsStore r).then_same (by simp)
    · exact s.dropClaim_keepsStore r

theorem releaseClaim_keepsStore (t : Tag) : s.KeepsStore (s.releaseClaim t) := by
  unfold releaseClaim
  split
  · exact .refl s
  · exact s.dropClaim_keepsStore _

theorem judgeFreshness_keepsStore (r : RecordNo) : s.KeepsStore (s.judgeFreshness r) := by
  unfold judgeFreshness
  split
  · exact (s.invalidate_keepsStore r).then_same (by simp)
  · exact .refl s

theorem answerBytes_keepsStore (t : Tag) (r : RecordNo) (a n : Nat) : s.KeepsStore (s.answerBytes t r a n) := by
  unfold answerBytes
  split
  · exact .of_same (by simp)
  · exact (s.updPins_keepsStore r (· + 1)).then_same (by simp)

theorem freeSlot_keepsStore (t : Tag) : s.KeepsStore (s.freeSlot t) := by
  unfold freeSlot unpin
  split
  · next r _ _ _ => exact (s.updPins_keepsStore r (· - 1)).then_same (by simp)
  all_goals exact .of_same (by simp)

theorem mirrorAgeTick_keepsStore : s.KeepsStore s.mirrorAgeTick := by
  refine .of_records rfl id (fun r => ?_) fun h r => ?_
  · rw [mirrorAgeTick_record, Record.tick_place]
  · rw [mirrorAgeTick_record]
    exact Record.law_tick (h.1 r)

/-! ## Entries (R7, R11 to R23) -/

theorem updEntry_keepsStore (e : EntryNo) {f : Entry → Entry}
    (h : ∀ en, (f en).valid = en.valid ∧ (f en).action = en.action) : s.KeepsStore (s.updEntry e f) := by
  refine .of_entries rfl fun n => ?_
  rw [updEntry_entry]
  split
  · exact h _
  · exact ⟨rfl, rfl⟩

theorem countHit_keepsStore (e : EntryNo) : s.KeepsStore (s.countHit e) := by
  refine .of_entries (by simp) fun n => ?_
  rw [countHit_entry]
  split <;> exact ⟨rfl, rfl⟩

theorem attach_keepsStore (t : Tag) (e : EntryNo) : s.KeepsStore (s.attach t e) := by
  refine .of_entries (by simp) fun n => ?_
  rw [attach_entry]
  split <;> exact ⟨rfl, rfl⟩

theorem leaveEntry_keepsStore (t : Tag) (o : Option Status) : s.KeepsStore (s.leaveEntry t o) := by
  refine .of_entries (by simp) fun n => ?_
  rw [leaveEntry_entry]
  split <;> exact ⟨rfl, rfl⟩

/-- An entry write whose record is of the kind that its action asks for (R3, R57). -/
theorem replaceEntry_keepsStore (e : EntryNo) {new : Entry}
    (h : new.valid = true → ∀ r, new.action.record? = some r → (s.record r).kind = new.action.kind) :
    s.KeepsStore (s.replaceEntry e new) := by
  obtain ⟨_, hentry, _, _⟩ := s.replaceEntry_effect e new
  have hrst : (s.replaceEntry e new).rst = s.rst := by simp [replaceEntry]
  have hrecord (r) : (s.replaceEntry e new).record r = s.record r := by rw [State.record, hrst]; rfl
  refine ⟨fun hs => by rwa [storeLaw, hrst], fun hs => by simpa only [regionLaw, hrecord] using hs,
    fun ⟨hlaw, href⟩ => ⟨fun r => by rw [hrecord]; exact hlaw r, fun n r hv ha => ?_⟩⟩
  rw [hrecord]
  rw [hentry] at hv ha ⊢
  split at hv
  · next hn =>
    rw [if_pos hn] at ha ⊢
    exact h hv r ha
  · next hn =>
    rw [if_neg hn] at ha ⊢
    exact href n r hv ha

/-! ## Outcomes, departures and dispatch (R12, R72, R80, R88, R95) -/

theorem turnAway_keepsStore (t : Tag) (st : Status) : s.KeepsStore (s.turnAway t st) :=
  ((s.leaveEntry_keepsStore t none).trans (releaseClaim_keepsStore _ t)).then_same ⟨rfl, rfl⟩

theorem handOn_keepsStore (t : Tag) (o : Status × Reason × PayloadSource) : s.KeepsStore (s.handOn t o) :=
  ((s.leaveEntry_keepsStore t _).trans (settleClaim_keepsStore _ t _)).then_same ⟨rfl, rfl⟩

theorem takeHead_keepsStore (x : Seg) (q : List Tag) : s.KeepsStore (State.takeHead x q s) := by
  induction q generalizing s with
  | nil => exact .of_same (by simp [State.takeHead])
  | cons t q ih =>
    simp only [State.takeHead]
    split
    · exact .after_same (by simp) ((turnAway_keepsStore _ t _).trans (ih _))
    · exact .of_same (by simp)

theorem dispatch_keepsStore (x : Seg) : s.KeepsStore (s.dispatch x) := by
  unfold dispatch
  dsimp only
  repeat' split
  · exact .of_same (by simp)
  · exact .after_same (by simp) (takeHead_keepsStore _ x _)
  · exact s.takeHead_keepsStore x _
  · exact .refl s

theorem engineRests_keepsStore (x : Seg) : s.KeepsStore (s.engineRests x) := by
  unfold engineRests
  dsimp only
  repeat' split
  · exact .of_same (by simp)
  · exact .of_same (by simp)
  · exact (s.updSeg_keepsStore x _).trans (dispatch_keepsStore _ x)

theorem answerDown_keepsStore (q : List Tag) : s.KeepsStore (State.answerDown q s) := by
  induction q generalizing s with
  | nil => exact .refl s
  | cons t q ih => exact (s.turnAway_keepsStore t _).trans (ih _)

end State
end Sys2Proof.Machine

/-! # PROOFS. Every step keeps the reply store's laws (O55). -/

namespace Sys2Proof.Machine

theorem Action.record?_eq_some {r : RecordNo} (a : Action) :
    a.record? = some r ↔ a = .answer r ∨ a = .stream r ∨ a = .mirror r := by
  cases a <;> simp [Action.record?]

theorem Action.eq_mirror_of_mirror? {a : Action} {r : RecordNo} (h : a.mirror? = some r) : a = .mirror r := by
  cases a <;> cases h
  rfl

namespace State

variable (s : State)

/-! ## The forward path (R40 to R45, R68, R69) -/

/-- A queued forward on the account of a valid MIRROR entry. -/
theorem mirrorQueued_keepsStore {e : EntryNo} {r : RecordNo} (q : Request) (hv : (s.entry e).valid = true)
    (ha : (s.entry e).action = .mirror r) : s.KeepsStore (s.mirrorQueued r q) := by
  have hinv := s.invalidate_keepsStore r
  unfold mirrorQueued
  repeat' split
  · next h => exact s.takeClaim_keepsStore q.tag fun hs => ⟨kind_of_mirror hs hv ha, h.1⟩
  · exact .refl s
  · refine hinv.trans (takeClaim_keepsStore _ q.tag fun hs => ⟨kind_of_mirror (e := e) hs hv ha, ?_⟩)
    rw [updRecord_record, if_pos rfl]
    rfl
  · exact hinv.trans (dropClaim_keepsStore _ r)
  · exact hinv.trans (dropClaim_keepsStore _ r)
  · exact .refl s

theorem onAccount_keepsStore (q : Request) {e : Option EntryNo} (hv : ∀ n, e = some n → (s.entry n).valid = true) :
    s.KeepsStore (s.onAccount q e) := by
  unfold onAccount
  split
  · exact .refl s
  · next n =>
    have hatt := s.attach_keepsStore q.tag n
    split
    · exact hatt
    · next r hr =>
      have hn := s.attach_entry q.tag n n
      rw [if_pos rfl] at hn
      refine hatt.trans (mirrorQueued_keepsStore _ (e := n) q ?_ ?_)
      · rw [hn]
        exact hv n rfl
      · rw [hn]
        exact Action.eq_mirror_of_mirror? hr

@[simp] theorem refuseForward_rst (q : Request) (e : Option EntryNo) (st : Status) (rs : Reason) :
    (s.refuseForward q e st rs).rst = s.rst := rfl
@[simp] theorem refuseForward_entries (q : Request) (e : Option EntryNo) (st : Status) (rs : Reason) :
    (s.refuseForward q e st rs).entries = s.entries := rfl

theorem enqueue_keepsStore (q : Request) {e : Option EntryNo} (x : Seg) (k : Fin 24)
    (hv : ∀ n, e = some n → (s.entry n).valid = true) : s.KeepsStore (s.enqueue q e x k) := by
  refine .after_same (t := s.queueUp q e x k) (by simp [queueUp]) (onAccount_keepsStore _ q fun n hn => ?_)
  rw [queueUp_entry]
  exact hv n hn

theorem forward_keepsStore (q : Request) {e : Option EntryNo} (hv : ∀ n, e = some n → (s.entry n).valid = true) :
    s.KeepsStore (s.forward q e) := by
  unfold forward
  repeat' split
  · exact .of_same (by simp)
  · exact .of_same (by simp)
  · exact .of_same (by simp)
  · exact .of_same (by simp)
  · exact .of_same (by simp)
  · exact (s.enqueue_keepsStore q _ _ hv).trans (dispatch_keepsStore _ _)

/-! ## Local answers (R61 to R68) -/

theorem fixedAnswer_keepsStore (q : Request) (r : RecordNo) : s.KeepsStore (s.fixedAnswer q r) := by
  unfold fixedAnswer
  split
  · exact s.answerBytes_keepsStore _ _ _ _
  · exact .of_same (by simp)

/-- What a local answer of `n` bytes leaves of the records: the pin (R58). -/
theorem answerBytes_record (t : Tag) (r : RecordNo) (a n : Nat) (m : RecordNo) :
    (s.answerBytes t r a n).record m = if m = r then
      { s.record m with pins := if n = 0 then (s.record m).pins else (s.record m).pins + 1 } else s.record m := by
  unfold answerBytes
  by_cases hn : n = 0 <;> simp [hn]

/-- A chunk is not more than remains, so the cursor and remaining move together. -/
theorem chunkAnswer_keepsStore (q : Request) (r : RecordNo) : s.KeepsStore (s.chunkAnswer q r) := by
  have hchunk : (s.record r).nextChunk q.reqLen.toNat ≤ (s.record r).remaining :=
    (Nat.min_le_right _ _).trans (Nat.min_le_right _ _)
  have hmove := (s.answerBytes_keepsStore q.tag r ((s.record r).base + (s.record r).cursor)
    ((s.record r).nextChunk q.reqLen.toNat)).trans (updRecord_keepsStore _ (r := r)
      (f := fun rc => rc.advance ((s.record r).nextChunk q.reqLen.toNat)) rfl fun h => Record.law_advance h (by
        rw [answerBytes_record, if_pos rfl]
        exact hchunk))
  unfold chunkAnswer
  dsimp only
  split
  · exact hmove.then_same (by simp)
  · exact hmove

theorem streamAnswer_keepsStore (q : Request) (r : RecordNo) : s.KeepsStore (s.streamAnswer q r) := by
  unfold streamAnswer
  repeat' split
  · exact .of_same (by simp)
  · exact s.chunkAnswer_keepsStore q r
  · exact .of_same (by simp)

theorem mirrorAnswer_keepsStore (q : Request) {e : EntryNo} (r : RecordNo) (hv : (s.entry e).valid = true) :
    s.KeepsStore (s.mirrorAnswer q e r) := by
  have hjudge := s.judgeFreshness_keepsStore r
  have hforward (u : State) (hu : (u.entry e).valid = true) : u.KeepsStore (u.forward q (some e)) :=
    u.forward_keepsStore q fun n hn => by cases hn; exact hu
  unfold mirrorAnswer
  dsimp only
  repeat' split
  · exact hjudge.trans (.after_same (by simp) (answerBytes_keepsStore _ _ _ _ _))
  · exact hjudge.trans (hforward _ (by rwa [judgeFreshness_entry]))
  · exact hforward s hv

/-! ## Admission (R33 to R39) -/

theorem act_keepsStore (q : Request) {e : EntryNo} (hv : (s.entry e).valid = true) : s.KeepsStore (s.act q e) := by
  have hforward : s.KeepsStore (s.forward q (some e)) := s.forward_keepsStore q fun n hn => by cases hn; exact hv
  unfold act
  split
  · exact hforward
  · exact .after_same (by simp) (fixedAnswer_keepsStore (s.occupyLocal q e) q _)
  · split
    · exact hforward
    · exact .after_same (by simp) (streamAnswer_keepsStore (s.occupyLocal q e) q _)
  · exact s.mirrorAnswer_keepsStore q _ hv

theorem hit_keepsStore (q : Request) {e : EntryNo} (hv : (s.entry e).valid = true) : s.KeepsStore (s.hit q e) := by
  have hcount := s.countHit_keepsStore e
  unfold hit
  split
  · exact hcount.then_same (by simp)
  · refine hcount.trans (act_keepsStore _ q ?_)
    rw [countHit_entry, if_pos rfl]
    exact hv

theorem miss_keepsStore (q : Request) : s.KeepsStore (s.miss q) := by
  unfold miss
  dsimp only
  split
  · exact .of_same (by simp)
  · exact .after_same (by simp) (forward_keepsStore _ q nofun)

theorem clash_keepsStore (q : Request) : s.KeepsStore (s.clash q) := by
  unfold clash
  dsimp only
  split <;> exact .of_same (by simp)

theorem valid_of_lookup {s : State} {q : Request} {e : EntryNo} (h : s.lookup q = some e) :
    (s.entry e).valid = true :=
  ((Entry.matchesRequest_iff _ q).1 (find?_indexes_eq_some.1 h).1).1

theorem toStation_keepsStore (q : Request) : s.KeepsStore (s.toStation q) := by
  unfold toStation
  split
  · exact .of_same (by simp)
  · split
    · exact s.miss_keepsStore q
    · next e he => exact s.hit_keepsStore q (valid_of_lookup he)

end State

/-! ## The agent's verdicts (R55 to R60, R65, R73) -/

/-- Whatever state a verdict gives, it keeps the reply store's laws. -/
def Verdict.KeepsStore (s : State) : Verdict → Prop
  | .done t => s.KeepsStore t
  | .waits t => s.KeepsStore t
  | .refused _ _ => True

section Verdicts

open State

variable (s : State)

theorem writeEntry_keepsStore (e : EntryNo) (p : List Byte) : (writeEntry s e p).KeepsStore s := by
  unfold writeEntry
  split
  · trivial
  · next new _ =>
    split
    · trivial
    · next hok =>
      refine s.replaceEntry_keepsStore e fun hv => ?_
      have hcons : s.entryConsistent new = true := by simpa [hv] using hok
      obtain ⟨_, _, _, hkind⟩ := (entryConsistent_iff s new).1 hcons
      exact hkind

/-- What an accepted descriptor write does: the claim is dropped and the record takes the written descriptor
(R56). -/
def State.replaceRecord (n : RecordNo) (new : Record) : State := (s.dropClaim n).updRecord n (fun _ => new)

theorem replaceRecord_record (n m : RecordNo) (new : Record) :
    (s.replaceRecord n new).record m = if m = n then new else s.record m := by
  by_cases hm : m = n <;> simp [State.replaceRecord, hm, dropClaim_record]

theorem replaceRecord_store (n : RecordNo) (new : Record) : (s.replaceRecord n new).rst.store = s.rst.store :=
  s.dropClaim_store n

/-- A descriptor that passes the checks of R55 and takes a record's place keeps the laws. -/
theorem replaceRecord_keepsStore {n : RecordNo} {new : Record} (hin : new.base + new.size ≤ Config.storeSize)
    (hover : s.overlapsOther n new = false) (hlaw : new.law)
    (href : s.referenced n = true → new.kind = (s.record n).kind) :
    s.KeepsStore (s.replaceRecord n new) := by
  have hrecord (m) := replaceRecord_record s n m new
  have hdisjoint (m) (hm : m ≠ n) := regionsOverlap_of_overlapsOther hover hm
  refine ⟨fun h => by rwa [storeLaw, replaceRecord_store], fun h => ⟨fun r => ?_, fun a b hab => ?_⟩,
    fun h => ⟨fun r => ?_, fun e r hv ha => ?_⟩⟩
  · rw [hrecord]
    split
    · exact hin
    · exact h.1 r
  · simp only [hrecord]
    split
    · next han =>
      rw [if_neg fun hbn => hab (han.trans hbn.symm)]
      exact hdisjoint b fun hbn => hab (han.trans hbn.symm)
    · next han =>
      split
      · rw [regionsOverlap_comm]
        exact hdisjoint a han
      · exact h.2 a b hab
  · rw [hrecord]
    split
    · exact hlaw
    · exact h.1 r
  · rw [State.replaceRecord, updRecord_entry, dropClaim_entry] at hv ha
    rw [show (s.replaceRecord n new).entry e = s.entry e by simp [State.replaceRecord]]
    rw [hrecord]
    split
    · next hr =>
      subst hr
      rw [href ((referenced_iff s r).2 ⟨e, hv, (Action.record?_eq_some _).1 ha⟩)]
      exact h.2 e r hv ha
    · exact h.2 e r hv ha

theorem writeDescriptor_keepsStore (n : RecordNo) (p : List Byte) : (writeDescriptor s n p).KeepsStore s := by
  unfold writeDescriptor
  repeat' split
  · trivial
  · trivial
  · trivial
  · trivial
  · trivial
  · next new hnew hin hover _ hkind =>
    refine replaceRecord_keepsStore s (Nat.not_lt.1 hin) (by simpa using hover) (descriptorOf_law hnew) fun href => ?_
    simp only [href, Bool.true_and, Bool.or_eq_true, decide_eq_true_eq, not_or, not_not] at hkind
    exact hkind.1

theorem dataWritten_keepsStore (n : RecordNo) (position len : Nat) : s.KeepsStore (s.dataWritten n position len) := by
  unfold dataWritten
  repeat' split
  · next hk _ => exact s.validate_dropClaim_keepsStore fun _ => hk
  · exact (s.invalidate_keepsStore n).trans (dropClaim_keepsStore _ n)
  · exact .refl s

theorem writeRecordData_keepsStore (n : RecordNo) (position : Nat) (p : List Byte) :
    (writeRecordData s n position p).KeepsStore s := by
  unfold writeRecordData
  repeat' split
  · trivial
  · trivial
  · trivial
  · trivial
  · exact (s.writeStore_keepsStore _ _).trans (dataWritten_keepsStore _ n _ _)

theorem cmdStreamRewind_keepsStore (arg : Byte) : (cmdStreamRewind s arg).KeepsStore s := by
  unfold cmdStreamRewind
  repeat' split
  · trivial
  · next hk => exact s.updRecord_keepsStore rfl fun h => Record.law_rewind h hk
  · trivial

theorem cmdMirrorInvalidate_keepsStore (arg : Byte) : (cmdMirrorInvalidate s arg).KeepsStore s := by
  unfold cmdMirrorInvalidate
  repeat' split
  · trivial
  · exact (s.invalidate_keepsStore _).trans (dropClaim_keepsStore _ _)
  · trivial

theorem cmdEntryHold_keepsStore (t : Tag) (arg : Byte) : (cmdEntryHold s t arg).KeepsStore s := by
  unfold cmdEntryHold
  repeat' split
  · trivial
  · trivial
  · exact s.updEntry_keepsStore _ fun _ => ⟨rfl, rfl⟩
  · refine KeepsStore.trans ?_ (beginWait_keepsStore _ t _)
    exact s.updEntry_keepsStore _ fun _ => ⟨rfl, rfl⟩

theorem cmdEntryRelease_keepsStore (arg : Byte) : (cmdEntryRelease s arg).KeepsStore s := by
  unfold cmdEntryRelease
  dsimp only
  repeat' split
  · trivial
  · exact s.updEntry_keepsStore _ fun _ => ⟨rfl, rfl⟩
  · refine KeepsStore.trans ?_ (overtake_keepsStore _ _ _)
    exact s.updEntry_keepsStore _ fun _ => ⟨rfl, rfl⟩

theorem cmdEntryBar_keepsStore (arg : Byte) : (cmdEntryBar s arg).KeepsStore s := by
  unfold cmdEntryBar
  split
  · trivial
  · exact s.updEntry_keepsStore _ fun _ => ⟨rfl, rfl⟩

theorem cmdEntryUnbar_keepsStore (arg : Byte) : (cmdEntryUnbar s arg).KeepsStore s := by
  unfold cmdEntryUnbar
  split
  · trivial
  · exact s.updEntry_keepsStore _ fun _ => ⟨rfl, rfl⟩

theorem cmdSegmentEnable_keepsStore (arg : Byte) : (cmdSegmentEnable s arg).KeepsStore s := by
  unfold cmdSegmentEnable
  dsimp only
  repeat' split
  · trivial
  · exact s.dispatch_keepsStore _
  all_goals exact KeepsStore.after_same (by simp) (dispatch_keepsStore _ _)

theorem beginDrain_keepsStore (x : Seg) (t : Tag) (mark : Bool) : s.KeepsStore (s.beginDrain x t mark) :=
  (s.updSeg_keepsStore x _).trans (beginWait_keepsStore _ t _)

theorem cmdSegmentDisable_keepsStore (t : Tag) (arg : Byte) : (cmdSegmentDisable s t arg).KeepsStore s := by
  unfold cmdSegmentDisable
  dsimp only
  repeat' split
  · trivial
  · exact KeepsStore.refl s
  · trivial
  · exact .after_same (by simp) ((answerDown_keepsStore _ _).trans (beginDrain_keepsStore _ _ t _))
  · exact .after_same (by simp) ((answerDown_keepsStore _ _).trans (beginDrain_keepsStore _ _ t _))
  · exact .after_same (by simp) ((answerDown_keepsStore _ _).trans (updSeg_keepsStore _ _ _))

theorem cmdNoticeForce_keepsStore (arg flags : Byte) : (cmdNoticeForce s arg flags).KeepsStore s := by
  unfold cmdNoticeForce
  repeat' split
  · trivial
  · trivial
  · exact KeepsStore.of_same (by simp)
  · exact KeepsStore.of_same (by simp)
  · exact KeepsStore.refl s

theorem cmdNoticeAck_keepsStore (arg : Byte) : (cmdNoticeAck s arg).KeepsStore s := by
  unfold cmdNoticeAck
  repeat' split
  · trivial
  · exact KeepsStore.of_same (by simp)
  · trivial

theorem cmdNoticeDone_keepsStore : (cmdNoticeDone s).KeepsStore s := by
  unfold cmdNoticeDone
  split
  · trivial
  · exact KeepsStore.of_same (by simp)

theorem cmdStationForget_keepsStore (arg : Byte) : (cmdStationForget s arg).KeepsStore s := by
  unfold cmdStationForget
  split
  · trivial
  · exact KeepsStore.of_same (by simp)

theorem cmdRestart_keepsStore (t : Tag) (arg : Byte) : (cmdRestart s t arg).KeepsStore s := by
  unfold cmdRestart
  split
  · trivial
  · exact KeepsStore.of_same (by simp)

theorem runCommand_keepsStore (t : Tag) (p : List Byte) (c : CommandObject) :
    (runCommand s t p c).KeepsStore s := by
  cases c
  case entryHold => exact cmdEntryHold_keepsStore s t _
  case entryRelease => exact cmdEntryRelease_keepsStore s _
  case entryBar => exact cmdEntryBar_keepsStore s _
  case entryUnbar => exact cmdEntryUnbar_keepsStore s _
  case streamRewind => exact cmdStreamRewind_keepsStore s _
  case mirrorInvalidate => exact cmdMirrorInvalidate_keepsStore s _
  case segmentEnable => exact cmdSegmentEnable_keepsStore s _
  case segmentDisable => exact cmdSegmentDisable_keepsStore s t _
  case stationForget => exact cmdStationForget_keepsStore s _
  case noticeAck => exact cmdNoticeAck_keepsStore s _
  case noticeDone => exact cmdNoticeDone_keepsStore s
  case noticeForce => exact cmdNoticeForce_keepsStore s _ _
  case countersClear => exact KeepsStore.of_same (by simp)
  case restart => exact cmdRestart_keepsStore s t _

theorem writeGeneral_keepsStore (p : List Byte) : (writeGeneral s p).KeepsStore s := by
  unfold writeGeneral
  repeat' split
  · trivial
  · exact KeepsStore.of_same (by simp)
  · trivial

theorem writeSegmentConfig_keepsStore (x : Seg) (p : List Byte) : (writeSegmentConfig s x p).KeepsStore s := by
  unfold writeSegmentConfig
  dsimp only
  repeat' split
  · trivial
  · trivial
  · exact s.updSeg_keepsStore x _

theorem writeNoticeConfig_keepsStore (p : List Byte) : (writeNoticeConfig s p).KeepsStore s := by
  unfold writeNoticeConfig
  split
  · trivial
  · exact KeepsStore.of_same (by simp)

theorem writeStation_keepsStore (i : StationNo) (p : List Byte) : (writeStation s i p).KeepsStore s := by
  unfold writeStation
  split
  · trivial
  · exact KeepsStore.of_same (by simp)

theorem writeNode_keepsStore (k : NodeNo) (p : List Byte) : (writeNode s k p).KeepsStore s := by
  unfold writeNode
  split
  · exact KeepsStore.of_same (by simp)
  · trivial

theorem ownerWrite_keepsStore (q : Request) (o : MgmtObject) : (ownerWrite s q o).KeepsStore s := by
  cases o
  case general => exact writeGeneral_keepsStore s _
  case segment x => exact writeSegmentConfig_keepsStore s x _
  case notice => exact writeNoticeConfig_keepsStore s _
  case command c => exact runCommand_keepsStore s _ _ c
  case entry n => exact writeEntry_keepsStore s n _
  case descriptor n => exact writeDescriptor_keepsStore s n _
  case recordData n => exact writeRecordData_keepsStore s n _ _
  case station i => exact writeStation_keepsStore s i _
  case node k => exact writeNode_keepsStore s k _
  case identity => trivial
  case counters => trivial
  case unknown => trivial

theorem mgmtWrite_keepsStore (q : Request) (o : MgmtObject) : (mgmtWrite s q o).KeepsStore s := by
  unfold mgmtWrite
  repeat' split
  · trivial
  · trivial
  · trivial
  · exact ownerWrite_keepsStore s q o

end Verdicts

namespace State

variable (s : State)

theorem conclude_keepsStore (q : Request) (o : MgmtObject) {v : Verdict} (h : v.KeepsStore s) :
    s.KeepsStore (s.conclude q o v) := by
  cases v with
  | done t =>
    rw [conclude_done]
    exact KeepsStore.trans h (t.capture_keepsStore q _)
  | waits t => exact h
  | refused st rs => exact KeepsStore.of_same ⟨s.refuse_rst q st rs, s.refuse_entries q st rs⟩

theorem manage_keepsStore (q : Request) : s.KeepsStore (s.manage q) := by
  unfold manage mgmtRead
  repeat' split
  · exact .of_same (by simp)
  · exact .of_same (by simp)
  · exact .of_same (by simp)
  · exact .of_same (by simp)
  · exact .of_same (by simp)
  · exact .of_same (by simp)
  · exact .of_same (by simp)
  · exact s.conclude_keepsStore q _ (mgmtWrite_keepsStore s q _)

/-! ## The acceptance decision (R33 to R38) and the upstream receiver (R167, R172) -/

theorem toAgent_keepsStore (q : Request) : s.KeepsStore (s.toAgent q) := by
  unfold toAgent
  split
  · exact .of_same (by simp)
  · exact .after_same (by simp) (manage_keepsStore _ q)

theorem accept_keepsStore (q : Request) : s.KeepsStore (s.accept q) := by
  unfold accept
  repeat' split
  · exact .of_same (by simp)
  · exact s.clash_keepsStore q
  · exact s.toAgent_keepsStore q
  · exact s.toStation_keepsStore q

theorem judgeUpstream_keepsStore (r : Except Half Request) : s.KeepsStore (s.judgeUpstream r) := by
  cases r with
  | error d => exact .of_same ⟨rfl, rfl⟩
  | ok q => exact .after_same (by simp) (accept_keepsStore s.countFrame q)

theorem upstreamFrameEnd_keepsStore : s.KeepsStore s.upstreamFrameEnd := by
  unfold upstreamFrameEnd
  split
  · exact .refl s
  · exact .of_same (by simp)
  · exact .after_same (by simp) (judgeUpstream_keepsStore s.readyRx _)

theorem receiveRequest_keepsStore (q : Request) : s.KeepsStore (s.receiveRequest q) := by
  unfold receiveRequest
  split
  · exact .of_same (by simp)
  · exact .after_same (by simp) (judgeUpstream_keepsStore s.readyRx _)
  · exact .after_same (by simp) (judgeUpstream_keepsStore s.readyRx _)

/-! ## The segments' events (R81 to R93) -/

theorem acceptResponse_keepsStore (x : Seg) (r : Response) : s.KeepsStore (s.acceptResponse x r) := by
  unfold acceptResponse
  split
  · exact .refl s
  · exact (KeepsStore.after_same (by simp) (handOn_keepsStore _ _ _)).trans (updSeg_keepsStore _ x _)
  · exact .of_same (by simp)

theorem judgeSegmentFrame_keepsStore (x : Seg) (f : Option Response) : s.KeepsStore (s.judgeSegmentFrame x f) := by
  unfold judgeSegmentFrame
  repeat' split
  · exact .refl s
  · exact .refl s
  · exact s.updSeg_keepsStore x _
  · exact s.updSeg_keepsStore x _
  · exact s.updSeg_keepsStore x _
  · exact s.acceptResponse_keepsStore x _
  · exact s.updSeg_keepsStore x _
  · exact s.updSeg_keepsStore x _

theorem segmentFrameRxEnd_keepsStore (x : Seg) : s.KeepsStore (s.segmentFrameRxEnd x) := by
  unfold segmentFrameRxEnd
  dsimp only
  repeat' split
  · exact .refl s
  · exact s.updSeg_keepsStore x _
  · exact s.updSeg_keepsStore x _
  · exact (s.updSeg_keepsStore x _).trans (judgeSegmentFrame_keepsStore _ x _)

theorem segmentFrameTxEnd_keepsStore (x : Seg) : s.KeepsStore (s.segmentFrameTxEnd x) := by
  unfold segmentFrameTxEnd
  dsimp only
  repeat' split
  · exact (s.handOn_keepsStore _ _).trans (updSeg_keepsStore _ x _)
  · exact s.updSeg_keepsStore x _
  · exact s.updSeg_keepsStore x _
  · exact .refl s

theorem responseTimerExpiry_keepsStore (x : Seg) : s.KeepsStore (s.responseTimerExpiry x) := by
  unfold responseTimerExpiry
  split
  · exact s.updSeg_keepsStore x _
  · exact .refl s

theorem failOutcome_keepsStore (x : Seg) (t : Tag) (f : AttemptFailure) : s.KeepsStore (s.failOutcome x t f) :=
  .after_same (by simp) (handOn_keepsStore ((s.raise _ _).requestFailure x _) t _)

theorem gapEnd_keepsStore (x : Seg) : s.KeepsStore (s.gapEnd x) := by
  unfold gapEnd
  repeat' split
  · exact .of_same (by simp [retry])
  · exact (s.failOutcome_keepsStore x _ _).trans (engineRests_keepsStore _ x)
  · exact s.engineRests_keepsStore x
  · exact .refl s

theorem probeTimerExpiry_keepsStore (x : Seg) : s.KeepsStore (s.probeTimerExpiry x) := by
  unfold probeTimerExpiry
  split
  · exact (s.updSeg_keepsStore x _).trans (dispatch_keepsStore _ x)
  · exact .refl s

/-! ## Power-on and the restarts (R74, R75, R163 to R166) -/

theorem reset_storeLaw : State.reset.storeLaw := rfl

theorem reset_regionLaw : State.reset.regionLaw :=
  ⟨fun r => by rw [reset_record]; exact Nat.zero_le _, fun a b _ => by rw [reset_record, reset_record]; rfl⟩

theorem reset_recordLaw : State.reset.recordLaw := by
  refine ⟨fun r => ?_, fun e r hv _ => ?_⟩
  · rw [reset_record]
    exact ⟨nofun, fun _ => ⟨rfl, rfl⟩, fun _ => ⟨rfl, rfl⟩, fun _ => rfl, nofun⟩
  · rw [reset_entry] at hv
    cases hv

/-- A state whose reply store and steering table have their power-on values meets the laws. -/
theorem keepsStore_of_reset {t : State} (hrst : t.rst = State.reset.rst) (hent : t.entries = State.reset.entries) :
    s.KeepsStore t :=
  have h := KeepsStore.of_same ⟨hrst, hent⟩
  ⟨fun _ => h.store reset_storeLaw, fun _ => h.region reset_regionLaw, fun _ => h.record reset_recordLaw⟩

/-- RESTART TRAFFIC clears pins and claims, and of the entries only counts and holders (R75). -/
theorem performTraffic_keepsStore : s.KeepsStore s.performTraffic := by
  have hrecord (r) : s.performTraffic.record r = { s.record r with pins := 0, claim := none } := mapAll_get _ _ r
  have hentry (e) : s.performTraffic.entry e = { s.entry e with inFlight := 0, holder := none } := mapAll_get _ _ e
  refine .of_parts (fun e => ?_) id (fun r => ?_) fun h r => ?_
  · rw [hentry]
    exact ⟨rfl, rfl⟩
  · rw [hrecord]
    rfl
  · rw [hrecord]
    exact Record.law_unclaimed (h.1 r)

theorem performRestart_keepsStore (t : Tag) : s.KeepsStore (s.performRestart t) := by
  unfold performRestart
  repeat' split
  · exact .refl s
  · exact s.performTraffic_keepsStore
  · exact s.keepsStore_of_reset rfl rfl
  · exact .refl s

/-! ## The upstream transmitter's events (R114 to R122) -/

theorem responseFrameEnd_keepsStore : s.KeepsStore s.responseFrameEnd := by
  unfold responseFrameEnd
  split
  · next t _ _ => exact (s.freeSlot_keepsStore t).trans (.after_same (by simp) (performRestart_keepsStore _ t))
  · exact .refl s

theorem clashFrameEnd_keepsStore : s.KeepsStore s.clashFrameEnd := by
  unfold clashFrameEnd
  split
  · exact .of_same (by simp)
  · exact .refl s

theorem noticeFrameEnd_keepsStore : s.KeepsStore s.noticeFrameEnd := by
  unfold noticeFrameEnd
  split
  · exact .of_same (by simp)
  · exact .refl s

theorem spacingEnd_keepsStore : s.KeepsStore s.spacingEnd := by
  unfold spacingEnd
  split
  · exact .of_same (by simp)
  · exact .refl s

theorem repeatTimerExpiry_keepsStore : s.KeepsStore s.repeatTimerExpiry := by
  unfold repeatTimerExpiry
  split
  · exact .of_same (by simp)
  · exact .refl s

theorem byteArrival_keepsStore (b : Byte) (l : Line) : s.KeepsStore (s.byteArrival b l) := by
  cases l with
  | upstream => exact .of_same ⟨rfl, rfl⟩
  | segment x => exact s.updSeg_keepsStore x (fun g => g.byte b)

theorem receiverIdleGap_keepsStore (l : Line) : s.KeepsStore (s.receiverIdleGap l) := by
  cases l with
  | upstream => exact s.upstreamFrameEnd_keepsStore
  | segment x => exact s.segmentFrameRxEnd_keepsStore x

end State

/-! ## Every event and every step -/

open State

theorem quietEvent_keepsStore {f : State → State} {s t : State} (hf : s.KeepsStore (f s))
    (h : quietEvent f s = .next t) : s.KeepsStore t := by
  cases h
  split
  · exact KeepsStore.refl s
  · exact hf

theorem event_keepsStore {f : State → State} {s t : State} (hf : s.KeepsStore (f s)) (h : event f s = .next t) :
    s.KeepsStore t :=
  quietEvent_keepsStore (hf.trans (f s).start_keepsStore) h

theorem execResetAssert_keepsStore {w : PulseWidth} {s t : State} (h : execResetAssert w s = .next t) :
    s.KeepsStore t := by
  cases w with
  | full =>
    cases h
    exact s.keepsStore_of_reset rfl rfl
  | short =>
    cases h
    split
    · exact s.keepsStore_of_reset rfl rfl
    · exact KeepsStore.of_same ⟨rfl, rfl⟩

theorem exec_keepsStore {i : Instr} {s t : State} (h : exec i s = .next t) : s.KeepsStore t := by
  cases hq : requestOfRow i with
  | some q =>
    rw [exec_of_requestOfRow hq] at h
    exact event_keepsStore (s.receiveRequest_keepsStore q) h
  | none =>
    cases i
    case upstreamFrameEnd => exact event_keepsStore s.upstreamFrameEnd_keepsStore h
    case dispatch x => exact event_keepsStore (f := fun s => s.dispatch x) (s.dispatch_keepsStore x) h
    case segmentFrameTxEnd x =>
      exact event_keepsStore (f := fun s => s.segmentFrameTxEnd x) (s.segmentFrameTxEnd_keepsStore x) h
    case segmentFrameRxEnd x =>
      exact event_keepsStore (f := fun s => s.segmentFrameRxEnd x) (s.segmentFrameRxEnd_keepsStore x) h
    case responseTimerExpiry x =>
      exact quietEvent_keepsStore (f := fun s => s.responseTimerExpiry x) (s.responseTimerExpiry_keepsStore x) h
    case gapEnd x => exact event_keepsStore (f := fun s => s.gapEnd x) (s.gapEnd_keepsStore x) h
    case probeTimerExpiry x =>
      exact event_keepsStore (f := fun s => s.probeTimerExpiry x) (s.probeTimerExpiry_keepsStore x) h
    case mirrorAgeTick => exact quietEvent_keepsStore s.mirrorAgeTick_keepsStore h
    case startOfTransmission => exact quietEvent_keepsStore s.start_keepsStore h
    case responseFrameEnd => exact quietEvent_keepsStore s.responseFrameEnd_keepsStore h
    case clashFrameEnd => exact quietEvent_keepsStore s.clashFrameEnd_keepsStore h
    case noticeFrameEnd => exact quietEvent_keepsStore s.noticeFrameEnd_keepsStore h
    case spacingEnd => exact quietEvent_keepsStore s.spacingEnd_keepsStore h
    case repeatTimerExpiry => exact quietEvent_keepsStore s.repeatTimerExpiry_keepsStore h
    case resetAssert w => exact execResetAssert_keepsStore h
    case resetRelease =>
      cases h
      split
      · exact s.keepsStore_of_reset rfl rfl
      · exact KeepsStore.refl s
    case powerUp =>
      cases h
      exact s.keepsStore_of_reset rfl rfl
    case receiverIdleGap l =>
      exact event_keepsStore (f := fun s => s.receiverIdleGap l) (s.receiverIdleGap_keepsStore l) h
    case byteArrival l b =>
      exact quietEvent_keepsStore (f := fun s => s.byteArrival b l) (s.byteArrival_keepsStore b l) h
    all_goals cases hq

theorem step_keepsStore {s t : State} (h : step s = .next t) : s.KeepsStore t := by
  unfold step at h
  split at h
  · cases h
    exact KeepsStore.refl s
  · next c rest _ => exact KeepsStore.after_same (t := { s with pending := rest }) ⟨rfl, rfl⟩ (exec_keepsStore h)

/-- Settles O55: the operations that write the reply store or a reference keep each law, and every other leaves both
alone. -/
theorem everyStepKeepsTheReplyStoreLaws : Obligations.EveryStepKeepsTheReplyStoreLaws := by
  unfold Obligations.EveryStepKeepsTheReplyStoreLaws
  exact fun s t h => ⟨(step_keepsStore h).store, (step_keepsStore h).region, (step_keepsStore h).record⟩

end Sys2Proof.Machine

/-! # PROOFS. Writes of the reply store and its commands (O2, O3, O9). -/

namespace Sys2Proof.Machine

/-! ## A management request that changes the reply store -/

/-- A request to the agent has taken its slot and management buffer `k`, and since its frame arrived nothing but the
reply store and flags of claims has changed. -/
structure State.TakenForStore (s u : State) (q : Request) (k : Fin 4) : Prop where
  received : s.received u
  own      : u.slot q.tag = mgmtSlot q k
  buffers  : s.sameBuffers u
  rtp      : u.rtp = s.rtp
  same     : s.sameButStore u

theorem State.occupyMgmt_takenForStore (s : State) (q : Request) (k : Fin 4) :
    s.TakenForStore (s.readyRx.countFrame.occupyMgmt q k) q k where
  received := by simp [State.received]
  own      := by simp
  buffers  := by simp [State.sameBuffers]
  rtp      := by simp
  same     := by simp [State.sameButStore, State.sameRest]

namespace State.TakenForStore

variable {s u : State} {q : Request} {k : Fin 4}

theorem updRecord (h : s.TakenForStore u q k) (r : RecordNo) (f : Record → Record) :
    s.TakenForStore (u.updRecord r f) q k := ⟨h.received, h.own, h.buffers, h.rtp, h.same⟩

theorem writeStore (h : s.TakenForStore u q k) (a : Nat) (bs : List Byte) :
    s.TakenForStore (u.writeStore a bs) q k := ⟨h.received, h.own, h.buffers, h.rtp, h.same⟩

/-- The request's own slot has no flag to lose. -/
theorem dropClaim (h : s.TakenForStore u q k) (r : RecordNo) : s.TakenForStore (u.dropClaim r) q k where
  received := by simpa [State.received] using h.received
  own      := by
    rw [dropClaim_slot, h.own]
    split <;> rfl
  buffers  := by simpa [State.sameBuffers] using h.buffers
  rtp      := by simpa using h.rtp
  same     := by simpa [State.sameButStore, State.sameRest] using h.same

theorem replaceRecord (h : s.TakenForStore u q k) (r : RecordNo) (new : Record) :
    s.TakenForStore (u.replaceRecord r new) q k := (h.dropClaim r).updRecord r _

theorem dataWritten (h : s.TakenForStore u q k) (r : RecordNo) (position len : Nat) :
    s.TakenForStore (u.dataWritten r position len) q k := by
  by_cases hk : (u.record r).kind = .mirror
  · rw [dataWritten_mirror u hk]
    exact (h.updRecord r _).dropClaim r
  · rwa [dataWritten_other u hk]

/-- An accepted write is answered (R151, R152). -/
theorem capture (h : s.TakenForStore u q k) (value : List Byte) :
    s.writeAnswered (u.capture q (if q.function = fnExchange then value else [])) q k value
      ∧ s.returns (u.capture q (if q.function = fnExchange then value else [])) [q.tag]
      ∧ s.sameButStore (u.capture q (if q.function = fnExchange then value else [])) := by
  refine ⟨writeAnswered_capture h.received h.own h.buffers, ?_, ?_⟩
  · rw [State.returns, capture_rtp, h.rtp]
  · simpa [State.sameButStore, State.sameRest] using h.same

/-- An accepted command is answered (R156). -/
theorem respond (h : s.TakenForStore u q k) :
    s.received (u.respond q.tag .done .none .none)
      ∧ (u.respond q.tag .done .none .none).slot q.tag = (mgmtSlot q k).answered .done .none .none
      ∧ s.sameBuffers (u.respond q.tag .done .none .none) ∧ s.returns (u.respond q.tag .done .none .none) [q.tag]
      ∧ s.sameButStore (u.respond q.tag .done .none .none) := by
  refine ⟨h.received, ?_, h.buffers, ?_, h.same⟩
  · rw [respond_slot, if_pos rfl, h.own]
    rfl
  · rw [State.returns, respond_rtp, h.rtp]

end State.TakenForStore

/-- The slots other than one's own, when a claim is dropped and they are else as they were (R70). -/
theorem State.claimDropped_dropClaim {s u : State} {r : RecordNo} {t : Tag} (hslot : s.otherSlots u t)
    (hclaim : (u.record r).claim = (s.record r).claim) : s.claimDropped (u.dropClaim r) r t := by
  intro v hv
  rw [dropClaim_slot, hclaim, hslot v hv]

theorem State.otherSlots_occupyMgmt (s : State) (q : Request) (k : Fin 4) :
    s.otherSlots (s.readyRx.countFrame.occupyMgmt q k) q.tag := by
  intro v hv
  rw [occupyMgmt_slot, if_neg hv]
  rfl

/-- An accepted write of a row whose object has a value afterwards (R151, R152). -/
theorem requestEvent_write_value {s u : State} {h : WriteHead} {w : WriteKind} {o : Half} {p : List Byte} {k : Fin 4}
    {ob : MgmtObject} {value : List Byte} (hs : s.reachesAgent h.tag k) (hg : goodLength w h) (hp : p.length ≤ 240)
    (ho : objectOf o = ob)
    (hu : mgmtWrite (s.readyRx.countFrame.occupyMgmt (writeRequest h w o p) k) (writeRequest h w o p) ob = .done u)
    (hv : objectValue u h.position.toNat ob = some value) :
    requestEvent (writeRequest h w o p) s = .next ((u.capture (writeRequest h w o p)
      (if (writeRequest h w o p).function = fnExchange then value else [])).start) := by
  rw [requestEvent_write_done hs hg hp ho hu, hv]
  rfl

/-! ## Descriptor writes (R55, R56) -/

theorem writeDescriptor_done {s : State} {n : RecordNo} {p : List Byte} {new : Record}
    (hnew : descriptorOf p = some new) (hin : new.base + new.size ≤ Config.storeSize)
    (hover : s.overlapsOther n new = false) (hpins : (s.record n).pins = 0)
    (href : s.referenced n = true → new.kind = (s.record n).kind ∧ new.kind ≠ .none) :
    writeDescriptor s n p = .done (s.replaceRecord n new) := by
  have hkind : ¬ (s.referenced n && (new.kind ≠ (s.record n).kind || new.kind = .none)) = true := by
    simpa using href
  simp only [writeDescriptor, hnew]
  rw [if_neg hin.not_gt, if_neg (by simp [hover]), if_neg (by simp [hpins]), if_neg hkind]
  rfl

/-- Settles O2: the checks of R55 pass, the claim is dropped and the descriptor replaced, and the write answered. -/
theorem descriptorWriteReplacesRecord : Obligations.DescriptorWriteReplacesRecord := by
  unfold Obligations.DescriptorWriteReplacesRecord
  intro s h w n p k new hs hp hg hl hnew hin hover hpins href
  obtain ⟨hcursor, hremaining, hstate, hage, _⟩ := descriptorOf_rewound hnew
  obtain ⟨hclaim, hnopins⟩ := descriptorOf_kept hnew
  have hverdict := mgmtWrite_of_checks
    (s := s.readyRx.countFrame.occupyMgmt (writeRequest h w (descriptorObject n) p) k)
    (q := writeRequest h w (descriptorObject n) p) (o := .descriptor n) rfl (fun _ => rfl) (.inl hp)
    (fun m hm => by cases hm; exact hl)
  have htaken := (s.occupyMgmt_takenForStore (writeRequest h w (descriptorObject n) p) k).replaceRecord n new
  obtain ⟨hans, hret, hsame⟩ := htaken.capture (recordBytes new)
  have hrecord (m) := replaceRecord_record
    (s.readyRx.countFrame.occupyMgmt (writeRequest h w (descriptorObject n) p) k) n m new
  have hexec := requestEvent_write_value (value := recordBytes new) hs hg (by omega) (objectOf_descriptor n)
    (hverdict.trans (writeDescriptor_done hnew hin hover hpins href)) (by rw [objectValue, hrecord, if_pos rfl])
  refine ⟨_, hexec, ?_, hret, fun v hv => ?_, ?_, hcursor, hremaining, hstate, hage, hclaim, hnopins, fun m hm => ?_,
    ?_, hsame⟩
  · rw [State.capture_record, hrecord, if_pos rfl]
    exact hans
  · rw [State.capture_otherSlot _ hv]
    exact State.claimDropped_dropClaim (s.otherSlots_occupyMgmt _ k) rfl v hv
  · rw [State.capture_record, hrecord, if_pos rfl]
  · rw [State.capture_record, hrecord, if_neg hm]
    rfl
  · rw [State.capture_rst, replaceRecord_store]
    rfl

/-! ## Record data writes (R60) -/

namespace State

variable (s : State)

/-- What an accepted data write of `len` bytes leaves of the records (R60). -/
theorem dataWritten_record (n : RecordNo) (position len : Nat) (m : RecordNo) :
    (s.dataWritten n position len).record m = if m = n ∧ (s.record n).kind = .mirror then
        { s.record n with
          mirrorState := if position = 0 ∧ len = (s.record n).length then .valid else .invalid
          age := 0, claim := none }
      else s.record m := by
  by_cases hk : (s.record n).kind = .mirror
  · rw [s.dataWritten_mirror hk, dropClaim_record]
    by_cases hm : m = n
    · subst hm
      by_cases hall : position = 0 ∧ len = (s.record m).length <;> simp [hk, hall, Record.validate, Record.invalidate]
    · simp [hm]
  · rw [s.dataWritten_other hk, if_neg fun h => hk h.2]

theorem dataWritten_store (n : RecordNo) (position len : Nat) :
    (s.dataWritten n position len).rst.store = s.rst.store := by
  by_cases hk : (s.record n).kind = .mirror
  · rw [s.dataWritten_mirror hk, dropClaim_store]
    rfl
  · rw [s.dataWritten_other hk]

theorem dataWritten_place (n : RecordNo) (position len : Nat) (m : RecordNo) :
    ((s.dataWritten n position len).record m).place = (s.record m).place := by
  rw [dataWritten_record]
  split
  · next h => rw [h.1]; rfl
  · rfl

/-- The slots other than one's own after a data write of a MIRROR record, when they were else as they were (R60). -/
theorem claimDropped_dataWritten {s u : State} {n : RecordNo} {t : Tag} {position len : Nat} (hslot : s.otherSlots u t)
    (hrec : u.record n = s.record n) (hk : (s.record n).kind = .mirror) :
    s.claimDropped (u.dataWritten n position len) n t := by
  rw [dataWritten_mirror u (by rwa [hrec])]
  refine claimDropped_dropClaim hslot ?_
  rw [updRecord_record, if_pos rfl, hrec]
  split <;> rfl

theorem otherSlots_dataWritten {s u : State} {n : RecordNo} {t : Tag} {position len : Nat} (hslot : s.otherSlots u t)
    (hrec : u.record n = s.record n) (hk : (s.record n).kind ≠ .mirror) :
    s.otherSlots (u.dataWritten n position len) t := by
  rwa [dataWritten_other u (by rwa [hrec])]

/-- An accepted record data write: the payload is stored, then the record takes its effect (R60). -/
def storeData (n : RecordNo) (position : Nat) (p : List Byte) : State :=
  (s.writeStore ((s.record n).base + position) p).dataWritten n position p.length

theorem storeData_store (n : RecordNo) (position : Nat) (p : List Byte) :
    (s.storeData n position p).rst.store = Memory.writeRun s.rst.store ((s.record n).base + position) p :=
  dataWritten_store _ n position p.length

theorem TakenForStore.storeData {s u : State} {q : Request} {k : Fin 4} (h : s.TakenForStore u q k) (n : RecordNo)
    (position : Nat) (p : List Byte) : s.TakenForStore (u.storeData n position p) q k :=
  (h.writeStore _ p).dataWritten n position p.length

/-- The bytes that an EXCHANGE reads back after its data write (R60). -/
theorem recordData_storeData {n : RecordNo} {position : Nat} (p : List Byte) (hkind : (s.record n).kind ≠ .none)
    (hpos : position < (s.record n).size) :
    (s.storeData n position p).recordData n position = some (Memory.readRun (s.storeData n position p).rst.store
      ((s.record n).base + position) ((s.record n).size - position)) := by
  have hplace : ((s.storeData n position p).record n).place = (s.record n).place := dataWritten_place _ n _ _ n
  obtain ⟨hk, hb, hz⟩ := Record.region_of_place hplace
  rw [recordData, hk, hb, hz, if_neg (not_or.2 ⟨hkind, hpos.not_ge⟩)]

/-- The state that an accepted record data write leaves before its answer, by the state that the frame found. -/
theorem storeData_effect {s : State} {q : Request} {k : Fin 4} {n : RecordNo} (hstore : s.storeLaw)
    (hin : (s.record n).base + (s.record n).size ≤ Config.storeSize)
    (hsize : q.position.toNat + q.payload.length ≤ (s.record n).size) :
    let u := (s.readyRx.countFrame.occupyMgmt q k).storeData n q.position.toNat q.payload
    (∀ a, Memory.read u.rst.store a = if (s.record n).base + q.position.toNat ≤ a
          ∧ a < (s.record n).base + q.position.toNat + q.payload.length
        then byteAt q.payload (a - ((s.record n).base + q.position.toNat)) else Memory.read s.rst.store a)
      ∧ u.record n = (if (s.record n).kind = .mirror then
          { s.record n with
            mirrorState := if q.position = 0 ∧ q.payload.length = (s.record n).length then .valid else .invalid
            age := 0, claim := none }
          else s.record n)
      ∧ ((s.record n).kind = .mirror → s.claimDropped u n q.tag)
      ∧ ((s.record n).kind ≠ .mirror → s.otherSlots u q.tag) ∧ s.otherRecords u n := by
  have hzero : q.position.toNat = 0 ↔ q.position = 0 := by bv_omega
  have hothers (a : Nat) : s.otherSlots ((s.readyRx.countFrame.occupyMgmt q k).writeStore a q.payload) q.tag :=
    s.otherSlots_occupyMgmt q k
  refine ⟨fun a => ?_, ?_, fun hm => ?_, fun hm => ?_, fun m hm => ?_⟩
  · rw [storeData_store]
    refine Memory.read_writeRun q.payload _ a hstore ?_
    simp only [occupyMgmt_record, countFrame_record, readyRx_record]
    omega
  · rw [storeData, dataWritten_record]
    simp only [true_and, hzero]
    rfl
  · exact claimDropped_dataWritten (hothers _) rfl hm
  · exact otherSlots_dataWritten (hothers _) rfl hm
  · rw [storeData, dataWritten_record, if_neg fun he => hm he.1]
    rfl

end State

theorem writeRecordData_done {s : State} {n : RecordNo} {position : Nat} {p : List Byte}
    (hkind : (s.record n).kind ≠ .none) (hp : p ≠ []) (hsize : position + p.length ≤ (s.record n).size)
    (hpins : (s.record n).pins = 0) : writeRecordData s n position p = .done (s.storeData n position p) := by
  rw [writeRecordData, if_neg hkind, if_neg (by simpa using hp), if_neg hsize.not_gt, if_neg (by simp [hpins])]
  rfl

/-- Settles O3: the checks of R60 pass, the payload is stored and its effect on a MIRROR record made, and the write
answered. -/
theorem recordDataWriteStoresItsBytes : Obligations.RecordDataWriteStoresItsBytes := by
  unfold Obligations.RecordDataWriteStoresItsBytes
  intro s h w n p k hs hg hl hstore hin hkind hp hsize hpins
  have hpos : h.position.toNat < (s.record n).size := by
    have := List.length_pos_iff.2 hp
    omega
  have hverdict := mgmtWrite_of_checks
    (s := s.readyRx.countFrame.occupyMgmt (writeRequest h w (recordDataObject n) p) k)
    (q := writeRequest h w (recordDataObject n) p) (o := .recordData n) rfl (fun _ => rfl) (.inr rfl)
    (fun m hm => by cases hm)
  have hexec := requestEvent_write_value hs hg hl (objectOf_recordData n)
    (hverdict.trans (writeRecordData_done hkind hp hsize hpins)) (State.recordData_storeData _ p hkind hpos)
  have htaken := (s.occupyMgmt_takenForStore (writeRequest h w (recordDataObject n) p) k).storeData n
    h.position.toNat p
  obtain ⟨hread, hrecord, hmirror, hother, hrecords⟩ :=
    State.storeData_effect (q := writeRequest h w (recordDataObject n) p) (k := k) hstore hin hsize
  obtain ⟨hans, hret, hsame⟩ := htaken.capture _
  refine ⟨_, hexec, ?_, hret, fun a => ?_, ?_, fun hm v hv => ?_, fun hm v hv => ?_, fun m hm => ?_, hsame⟩
  · rw [State.capture_rst]
    exact hans
  · rw [State.capture_rst]
    exact hread a
  · rw [State.capture_record]
    exact hrecord
  · rw [State.capture_otherSlot _ hv]
    exact hmirror hm v hv
  · rw [State.capture_otherSlot _ hv]
    exact hother hm v hv
  · rw [State.capture_record]
    exact hrecords m hm

/-! ## The commands and the tick (R65, R66, R73) -/

theorem cmdStreamRewind_done {s : State} {r : RecordNo} (hk : (s.record r).kind = .stream) :
    cmdStreamRewind s (byteOf r) = .done (s.updRecord r (fun rc => { rc with cursor := 0, remaining := rc.total })) := by
  rw [cmdStreamRewind, indexOf_byteOf r (by decide)]
  exact if_pos hk

theorem cmdMirrorInvalidate_done {s : State} {r : RecordNo} (hk : (s.record r).kind = .mirror) :
    cmdMirrorInvalidate s (byteOf r) = .done ((s.updRecord r Record.invalidate).dropClaim r) := by
  rw [cmdMirrorInvalidate, indexOf_byteOf r (by decide)]
  exact if_pos hk

/-- A tick on one record, its age saturating at FFFFh (R66). -/
theorem Record.tick_eq (rc : Record) : rc.tick = if rc.kind = .mirror ∧ rc.mirrorState = .valid then
    { rc with age := if rc.age = 0xFFFF then 0xFFFF else rc.age + 1 } else rc := by
  have hsat : satInc rc.age = if rc.age = 0xFFFF then 0xFFFF else rc.age + 1 := by
    have hall : (BitVec.allOnes 16 : Half) = 0xFFFF := rfl
    rw [satInc, hall]
    split
    · next h => exact h
    · rfl
  rw [tick, hsat]

/-- Settles O9: each command's verdict, then its answer; and the tick, record by record. -/
theorem recordCommandsAndTickActOnRecord : Obligations.RecordCommandsAndTickActOnRecord := by
  unfold Obligations.RecordCommandsAndTickActOnRecord
  refine ⟨fun s h k r hs hp => ⟨fun hk => ?_, fun hk => ?_⟩, fun s hr =>
    ⟨s.mirrorAgeTick, quietEvent_of_released hr, fun r => ?_, rfl⟩⟩
  · have htaken := (s.occupyMgmt_takenForStore (commandRequest h .streamRewind [byteOf r]) k).updRecord r
      (fun rc => { rc with cursor := 0, remaining := rc.total })
    obtain ⟨hrec, hself, hbuf, hret, hsame⟩ := htaken.respond
    refine ⟨_, requestEvent_command_done hs hp rfl (cmdStreamRewind_done hk), ⟨hrec, hself, fun v hv => ?_, hbuf, hret⟩,
      ?_, fun m hm => ?_, rfl, hsame⟩
    · rw [State.respond_slot, if_neg (show v ≠ h.tag from hv)]
      exact s.otherSlots_occupyMgmt _ k v hv
    · rw [State.respond_record, State.updRecord_record, if_pos rfl]
      rfl
    · rw [State.respond_record, State.updRecord_record, if_neg hm]
      rfl
  · have htaken := ((s.occupyMgmt_takenForStore (commandRequest h .mirrorInvalidate [byteOf r]) k).updRecord r
      Record.invalidate).dropClaim r
    obtain ⟨hrec, hself, hbuf, hret, hsame⟩ := htaken.respond
    refine ⟨_, requestEvent_command_done hs hp rfl (cmdMirrorInvalidate_done hk), hrec, hbuf, hret, fun v hv => ?_,
      hself, ?_, fun m hm => ?_, ?_, hsame⟩
    · rw [State.respond_slot, if_neg hv, State.dropClaim_invalidated_slot]
      rw [s.otherSlots_occupyMgmt (commandRequest h .mirrorInvalidate [byteOf r]) k v hv]
      rfl
    · rw [State.respond_record, State.dropClaim_invalidated_record, if_pos rfl]
      rfl
    · rw [State.respond_record, State.dropClaim_invalidated_record, if_neg hm]
      rfl
    · rw [State.respond_rst, State.dropClaim_store]
      rfl
  · rw [State.mirrorAgeTick_record, Record.tick_eq]

end Sys2Proof.Machine

/-! # PROOFS. The local answers of the reply store (O21, O22, O23). -/

namespace Sys2Proof.Machine

/-! ## A hit that is answered locally (R28, R58) -/

/-- A hit of entry `e` is counted and answered from a LOCAL slot; besides the reply store, and the notice unit which
becomes `n`, nothing else has changed since its frame arrived. -/
structure State.LocallyAnswered (s u : State) (q : Request) (e : EntryNo) (st : Status) (rs : Reason)
    (src : PayloadSource) (n : NoticeUnit) : Prop where
  answers  : s.answers u q.tag ((occupiedSlot q .localAnswer (some e)).answered st rs src)
  entries  : u.entries = (s.countHit e).entries
  ntu      : u.ntu = n
  segA     : u.segA = s.segA
  segB     : u.segB = s.segB
  stations : u.stations = s.stations
  mga      : u.mga = s.mga

namespace State

/-- A received request whose hit of entry `e` is counted, and which has taken its LOCAL slot. -/
def localHit (s : State) (q : Request) (e : EntryNo) : State := (s.readyRx.countFrame.countHit e).occupyLocal q e

@[simp] theorem localHit_rst (s : State) (q : Request) (e : EntryNo) : (s.localHit q e).rst = s.rst := by
  simp [localHit]

@[simp] theorem localHit_record (s : State) (q : Request) (e : EntryNo) (r : RecordNo) :
    (s.localHit q e).record r = s.record r := by
  simp [localHit]

theorem respond_locallyAnswered (s : State) (q : Request) (e : EntryNo) (st : Status) (rs : Reason)
    (src : PayloadSource) :
    s.LocallyAnswered ((s.localHit q e).respond q.tag st rs src) q e st rs src (s.countHit e).ntu where
  answers  := by
    refine ⟨by simp [localHit, received], ?_, fun v hv => ?_, by simp [localHit, sameBuffers],
      by simp [localHit, returns]⟩
    · simp [localHit, Slot.answered]
    · simp [localHit, hv]
  entries  := by simpa [localHit] using countHit_countFrame_entries s e
  ntu      := by simpa [localHit] using countHit_countFrame_ntu s e
  segA     := by simp [localHit]
  segB     := by simp [localHit]
  stations := by simp [localHit]
  mga      := by simp [localHit]

namespace LocallyAnswered

variable {s u : State} {q : Request} {e : EntryNo} {st : Status} {rs : Reason} {src : PayloadSource} {n : NoticeUnit}

theorem updRecord (h : s.LocallyAnswered u q e st rs src n) (r : RecordNo) (f : Record → Record) :
    s.LocallyAnswered (u.updRecord r f) q e st rs src n :=
  ⟨h.answers, h.entries, h.ntu, h.segA, h.segB, h.stations, h.mga⟩

theorem raise (h : s.LocallyAnswered u q e st rs src n) (k : NodeNo) (d : Half) :
    s.LocallyAnswered (u.raise k d) q e st rs src (n.raise k d) :=
  ⟨h.answers, h.entries, congrArg (fun m => m.raise k d) h.ntu, h.segA, h.segB, h.stations, h.mga⟩

end LocallyAnswered

theorem answerBytes_locallyAnswered (s : State) (q : Request) (e : EntryNo) (r : RecordNo) (a n : Nat) :
    s.LocallyAnswered ((s.localHit q e).answerBytes q.tag r a n) q e .done .none
      (if n = 0 then .none else .record r a n) (s.countHit e).ntu := by
  unfold answerBytes
  split
  · exact s.respond_locallyAnswered q e .done .none .none
  · exact (s.respond_locallyAnswered q e .done .none (.record r a n)).updRecord r
      (fun rc => { rc with pins := rc.pins + 1 })

theorem answerBytes_store (s : State) (t : Tag) (r : RecordNo) (a n : Nat) :
    (s.answerBytes t r a n).rst.store = s.rst.store := by
  unfold answerBytes
  split <;> rfl

/-- What a local answer of `n` bytes leaves of the records (R58). -/
theorem localAnswer_record (s : State) (q : Request) (e : EntryNo) (t : Tag) (r : RecordNo) (a n : Nat) (m : RecordNo) :
    ((s.localHit q e).answerBytes t r a n).record m = if m = r then
      { s.record m with pins := if n = 0 then (s.record m).pins else (s.record m).pins + 1 } else s.record m := by
  rw [answerBytes_record, localHit_record]

theorem localAnswer_store (s : State) (q : Request) (e : EntryNo) (t : Tag) (r : RecordNo) (a n : Nat) :
    ((s.localHit q e).answerBytes t r a n).rst.store = s.rst.store := by
  rw [answerBytes_store, localHit_rst]

end State

/-! ## FIXED records (R10, R61) -/

section Hits

variable {s : State} {q : Request} {e : EntryNo} {r : RecordNo}

/-- The counted entry keeps its action (R7). -/
theorem countedHit_action (s : State) (e : EntryNo) :
    ((s.readyRx.countFrame.countHit e).entry e).action = (s.entry e).action := countHit_action s.readyRx.countFrame e

theorem countedHit_record (s : State) (e : EntryNo) (r : RecordNo) :
    (s.readyRx.countFrame.countHit e).record r = s.record r := State.countHit_record _ e r

theorem exec_of_answer (h : s.reachesAction q e) (ha : (s.entry e).action = .answer r) :
    exec .upstreamFrameEnd s = .next ((s.localHit q e).fixedAnswer q r).start := by
  rw [exec_of_reachesAction h, State.act, countedHit_action, ha]
  rfl

/-- An answer from a FIXED record is one of `n` bytes of its region, of none for a WRITE or PING. -/
theorem State.fixedAnswer_eq (s : State) (q : Request) (r : RecordNo) :
    s.fixedAnswer q r = s.answerBytes q.tag r (s.record r).base
      (if q.function = 1 ∨ q.function = 3 then min q.reqLen.toNat (s.record r).length else 0) := by
  unfold State.fixedAnswer
  by_cases hf : q.function = 1 ∨ q.function = 3
  · rw [if_pos ((readsBack_iff _).2 hf), if_pos hf]
  · rw [if_neg fun h => hf ((readsBack_iff _).1 h), if_neg hf]
    rfl

end Hits

/-- Settles O21: the answers of a FIXED record in one form, and what an answer of `n` bytes leaves. -/
theorem fixedRecordAnswers : Obligations.FixedRecordAnswers := by
  unfold Obligations.FixedRecordAnswers
  intro s q e r n h ha hn
  have hexec := exec_of_answer h ha
  rw [State.fixedAnswer_eq, State.localHit_record, ← hn] at hexec
  have L := s.answerBytes_locallyAnswered q e r (s.record r).base n
  have hrecord (m) := s.localAnswer_record q e q.tag r (s.record r).base n m
  exact ⟨_, hexec, L.answers, by rw [hrecord, if_pos rfl], fun m hm => by rw [hrecord, if_neg hm],
    s.localAnswer_store q e _ r _ n, L.entries, L.ntu, L.segA, L.segB, L.stations, L.mga⟩

/-! ## STREAM records (R62 to R64) -/

section Streams

variable {s : State} {q : Request} {e : EntryNo} {r : RecordNo}

theorem State.streamForwards_iff (s : State) (q : Request) (r : RecordNo) (x : Fallback) :
    s.streamForwards q r x = true ↔ q.function = 1 ∧ (s.record r).remaining = 0 ∧ x = .forward := by
  simp only [State.streamForwards, Bool.and_eq_true, decide_eq_true_eq, and_assoc]
  rfl

theorem exec_of_stream (h : s.reachesAction q e) (ha : (s.entry e).action = .stream r) :
    exec .upstreamFrameEnd s = .next (State.start (if s.streamForwards q r (s.entry e).exhaustedAction
      then (s.readyRx.countFrame.countHit e).forward q (some e) else (s.localHit q e).streamAnswer q r)) := by
  have hforwards (x) : (s.readyRx.countFrame.countHit e).streamForwards q r x = s.streamForwards q r x := by
    rw [State.streamForwards, countedHit_record]
    rfl
  rw [exec_of_reachesAction h, State.act, countedHit_action, ha]
  simp only [hforwards]
  rw [countHit_exhaustedAction]
  rfl

theorem exec_of_stream_forward (h : s.reachesAction q e) (ha : (s.entry e).action = .stream r) (hf : q.function = 1)
    (hr : (s.record r).remaining = 0) (hx : (s.entry e).exhaustedAction = .forward) :
    exec .upstreamFrameEnd s = .next ((s.readyRx.countFrame.countHit e).forward q (some e)).start := by
  rw [exec_of_stream h ha, if_pos ((s.streamForwards_iff q r _).2 ⟨hf, hr, hx⟩)]

theorem exec_of_stream_local (h : s.reachesAction q e) (ha : (s.entry e).action = .stream r)
    (hno : q.function = 1 → (s.record r).remaining = 0 → (s.entry e).exhaustedAction ≠ .forward) :
    exec .upstreamFrameEnd s = .next ((s.localHit q e).streamAnswer q r).start := by
  rw [exec_of_stream h ha, if_neg]
  rw [State.streamForwards_iff]
  exact fun ⟨hf, hr, hx⟩ => hno hf hr hx

theorem State.streamAnswer_of_remaining (hf : q.function = 1 ∨ q.function = 3) (hr : 0 < (s.record r).remaining) :
    s.streamAnswer q r = s.chunkAnswer q r := by
  rw [State.streamAnswer, if_pos ((readsBack_iff _).2 hf), if_neg hr.ne']

theorem State.streamAnswer_of_exhausted (hf : q.function = 1 ∨ q.function = 3) (hr : (s.record r).remaining = 0) :
    s.streamAnswer q r = s.respond q.tag .refused .exhausted .none := by
  rw [State.streamAnswer, if_pos ((readsBack_iff _).2 hf), if_pos hr]

theorem State.streamAnswer_of_write (hf : ¬ (q.function = 1 ∨ q.function = 3)) :
    s.streamAnswer q r = s.respond q.tag .done .none .none := by
  rw [State.streamAnswer, if_neg fun h => hf ((readsBack_iff _).1 h)]

/-- The next chunk, of `n` bytes, moves the cursor past it (R62). -/
theorem State.chunkAnswer_effect {n : Nat} (hn : n = (s.record r).nextChunk q.reqLen.toNat)
    (hr : 0 < (s.record r).remaining) :
    let u := (s.localHit q e).chunkAnswer q r
    s.LocallyAnswered u q e .done .none
        (if n = 0 then .none else .record r ((s.record r).base + (s.record r).cursor) n)
        (if (s.record r).remaining = n then (s.countHit e).ntu.raise nodeStreamEnd (halfNat r)
          else (s.countHit e).ntu)
      ∧ (∀ m, u.record m = if m = r then { s.record r with
          cursor := (s.record r).cursor + n, remaining := (s.record r).remaining - n
          pins := if n = 0 then (s.record r).pins else (s.record r).pins + 1 } else s.record m)
      ∧ u.rst.store = s.rst.store := by
  have L := (s.answerBytes_locallyAnswered q e r ((s.record r).base + (s.record r).cursor) n).updRecord r
    (fun rc => rc.advance n)
  have hrecord (m) : ((((s.localHit q e).answerBytes q.tag r ((s.record r).base + (s.record r).cursor) n).updRecord r
      (fun rc => rc.advance n)).record m) = if m = r then { s.record r with
          cursor := (s.record r).cursor + n, remaining := (s.record r).remaining - n
          pins := if n = 0 then (s.record r).pins else (s.record r).pins + 1 } else s.record m := by
    rw [State.updRecord_record, State.localAnswer_record]
    by_cases hm : m = r
    · subst hm
      simp only [if_pos, Record.advance]
    · simp only [if_neg hm]
  have hstore := s.localAnswer_store q e q.tag r ((s.record r).base + (s.record r).cursor) n
  have hend : (n ≠ 0 ∧ (s.record r).remaining = n) ↔ (s.record r).remaining = n :=
    ⟨fun h => h.2, fun h => ⟨by omega, h⟩⟩
  simp only [State.chunkAnswer, State.localHit_record, ← hn, hend]
  split
  · exact ⟨L.raise _ _, hrecord, hstore⟩
  · exact ⟨L, hrecord, hstore⟩

end Streams

/-- Settles O22, by the request's function and what remains of the stream. -/
theorem streamRecordAnswersChunks : Obligations.StreamRecordAnswersChunks := by
  unfold Obligations.StreamRecordAnswersChunks
  intro s q e r n h ha hn
  refine ⟨fun hf hr => ?_, fun hf hr => ?_, fun hf hx hr => exec_of_stream_forward h ha hf hr hx, fun hf => ?_⟩
  · have hexec := exec_of_stream_local h ha fun _ h0 => absurd h0 hr.ne'
    rw [State.streamAnswer_of_remaining hf (by rwa [State.localHit_record])] at hexec
    obtain ⟨L, hrecord, hstore⟩ := State.chunkAnswer_effect (e := e) hn hr
    exact ⟨_, hexec, L.answers, by rw [hrecord, if_pos rfl], L.ntu, fun m hm => by rw [hrecord, if_neg hm], hstore,
      L.entries, L.segA, L.segB, L.stations, L.mga⟩
  · have hno : q.function = 1 → (s.record r).remaining = 0 → (s.entry e).exhaustedAction ≠ .forward := by
      rintro h1 - hx
      rcases hf with h3 | ⟨_, hrefuse⟩
      · rw [h1] at h3
        cases h3
      · rw [hx] at hrefuse
        cases hrefuse
    have hreads : q.function = 1 ∨ q.function = 3 := hf.elim .inr fun h1 => .inl h1.1
    have hexec := exec_of_stream_local h ha hno
    rw [State.streamAnswer_of_exhausted hreads (by rwa [State.localHit_record])] at hexec
    have L := s.respond_locallyAnswered q e .refused .exhausted .none
    exact ⟨_, hexec, L.answers, s.localHit_rst q e, L.entries, L.ntu, L.segA, L.segB, L.stations, L.mga⟩
  · have h1 : q.function ≠ 1 := by rcases hf with hf | hf <;> rw [hf] <;> decide
    have h3 : q.function ≠ 3 := by rcases hf with hf | hf <;> rw [hf] <;> decide
    have hexec := exec_of_stream_local h ha fun hf' => absurd hf' h1
    rw [State.streamAnswer_of_write (not_or.2 ⟨h1, h3⟩)] at hexec
    have L := s.respond_locallyAnswered q e .done .none .none
    exact ⟨_, hexec, L.answers, s.localHit_rst q e, L.entries, L.ntu, L.segA, L.segB, L.stations, L.mga⟩

/-! ## MIRROR records (R67 to R69) -/

section Mirrors

variable {s : State} {q : Request} {e : EntryNo} {r : RecordNo}

theorem Record.stale_iff (rc : Record) :
    rc.stale = true ↔ rc.mirrorState = .valid ∧ rc.maxAge ≠ 0 ∧ rc.maxAge.toNat ≤ rc.age.toNat := by
  simp [Record.stale, and_assoc]

theorem State.mirrorServes_iff (s : State) (q : Request) (r : RecordNo) : s.mirrorServes q r = true ↔
    (s.record r).mirrorState = .valid ∧ q.position = 0 ∧ q.reqLen.toNat ≤ (s.record r).length := by
  simp [State.mirrorServes, and_assoc]

theorem State.mirrorAnswer_of_served (hf : q.function = 1) (hfresh : ¬ (s.record r).stale = true)
    (hserves : s.mirrorServes q r = true) : s.mirrorAnswer q e r
      = (s.occupyLocal q e).answerBytes q.tag r (s.record r).base q.reqLen.toNat := by
  rw [State.mirrorAnswer, if_pos (show q.function = fnRead from hf), State.judgeFreshness, if_neg hfresh]
  exact if_pos hserves

theorem State.mirrorAnswer_of_unserved (hf : q.function = 1) (hfresh : ¬ (s.record r).stale = true)
    (hserves : ¬ s.mirrorServes q r = true) : s.mirrorAnswer q e r = s.forward q (some e) := by
  rw [State.mirrorAnswer, if_pos (show q.function = fnRead from hf), State.judgeFreshness, if_neg hfresh]
  exact if_neg hserves

/-- A stale record is INVALID once it is judged, so its READ is not served (R67, R68). -/
theorem State.mirrorAnswer_of_stale (hf : q.function = 1) (hstale : (s.record r).stale = true) :
    s.mirrorAnswer q e r
      = ((s.updRecord r Record.invalidate).raise nodeMirrorStale (halfNat r)).forward q (some e) := by
  rw [State.mirrorAnswer, if_pos (show q.function = fnRead from hf), State.judgeFreshness, if_pos hstale]
  refine if_neg fun hserves => ?_
  have hvalid := ((State.mirrorServes_iff _ q r).1 hserves).1
  rw [State.raise_record, State.updRecord_record, if_pos rfl] at hvalid
  cases hvalid

theorem State.mirrorAnswer_of_other (hf : q.function ≠ 1) : s.mirrorAnswer q e r = s.forward q (some e) := by
  rw [State.mirrorAnswer, if_neg (show q.function ≠ fnRead from hf)]

theorem exec_of_mirror (h : s.reachesAction q e) (ha : (s.entry e).action = .mirror r) :
    exec .upstreamFrameEnd s = .next ((s.readyRx.countFrame.countHit e).mirrorAnswer q e r).start := by
  rw [exec_of_reachesAction h, State.act, countedHit_action, ha]

theorem exec_of_forward (h : s.reachesAction q e) (ha : (s.entry e).action = .forward) :
    exec .upstreamFrameEnd s = .next ((s.readyRx.countFrame.countHit e).forward q (some e)).start := by
  rw [exec_of_reachesAction h, State.act, countedHit_action, ha]

end Mirrors

/-- Settles O23, by the freshness judgement and the serving of a READ. -/
theorem mirrorServesOrForwards : Obligations.MirrorServesOrForwards := by
  unfold Obligations.MirrorServesOrForwards
  intro s q e h
  refine ⟨fun r ha => ?_, exec_of_forward h⟩
  have hrec := countedHit_record s e r
  have hexec := exec_of_mirror h ha
  have hstale : ((s.readyRx.countFrame.countHit e).record r).stale = true ↔ (s.record r).mirrorState = .valid
      ∧ (s.record r).maxAge ≠ 0 ∧ (s.record r).maxAge.toNat ≤ (s.record r).age.toNat := by
    rw [hrec, Record.stale_iff]
  have hserves : (s.readyRx.countFrame.countHit e).mirrorServes q r = true ↔ (s.record r).mirrorState = .valid
      ∧ q.position = 0 ∧ q.reqLen.toNat ≤ (s.record r).length := by
    rw [State.mirrorServes_iff, hrec]
  refine ⟨fun hf hvalid hfresh hpos hlen => ?_, fun hf hvalid hmax hage => ?_, fun hf hcase => ?_, fun hf => ?_⟩
  · have hnot : ¬ ((s.readyRx.countFrame.countHit e).record r).stale = true := by
      rw [hstale]
      rintro ⟨-, hmax, hage⟩
      exact hfresh.elim hmax fun hlt => hlt.not_ge hage
    rw [State.mirrorAnswer_of_served hf hnot (hserves.2 ⟨hvalid, hpos, hlen⟩), hrec] at hexec
    have hzero : q.reqLen.toNat = 0 ↔ q.reqLen = 0 := by bv_omega
    have L := s.answerBytes_locallyAnswered q e r (s.record r).base q.reqLen.toNat
    have hrecord (m) := s.localAnswer_record q e q.tag r (s.record r).base q.reqLen.toNat m
    simp only [hzero] at L hrecord
    exact ⟨_, hexec, L.answers, (hrecord r).trans (if_pos rfl), fun m hm => (hrecord m).trans (if_neg hm),
      s.localAnswer_store q e _ r _ _, L.entries, L.ntu, L.segA, L.segB, L.stations, L.mga⟩
  · rw [hexec, State.mirrorAnswer_of_stale hf (hstale.2 ⟨hvalid, hmax, hage⟩)]
    rfl
  · rw [hexec, State.mirrorAnswer_of_unserved hf]
    · rw [hstale]
      rintro ⟨hvalid, hmax, hage⟩
      rcases hcase with hinvalid | ⟨hfresh, _⟩
      · rw [hvalid] at hinvalid
        cases hinvalid
      · exact hfresh.elim hmax fun hlt => hlt.not_ge hage
    · rw [hserves]
      rintro ⟨hvalid, hpos, hlen⟩
      rcases hcase with hinvalid | ⟨_, hposition | hlong⟩
      · rw [hvalid] at hinvalid
        cases hinvalid
      · exact hposition hpos
      · exact hlong.not_ge hlen
  · rw [hexec, State.mirrorAnswer_of_other hf]

end Sys2Proof.Machine

/-! # PROOFS. The dispatch and the probes (O30, O32). -/

namespace Sys2Proof.Machine
namespace State

variable {s : State} {x : Seg} {t : Tag} {q : List Tag}

/-! ## The segments' events, with RESET# released (R79 to R91, R165) -/

section Events

variable (x : Seg) (h : s.resetAsserted = false)
include h

theorem exec_dispatch : exec (.dispatch x) s = .next (s.dispatch x).start :=
  event_of_released (f := fun s => s.dispatch x) h

theorem exec_probeTimerExpiry : exec (.probeTimerExpiry x) s = .next (s.probeTimerExpiry x).start :=
  event_of_released (f := fun s => s.probeTimerExpiry x) h

theorem exec_segmentFrameTxEnd : exec (.segmentFrameTxEnd x) s = .next (s.segmentFrameTxEnd x).start :=
  event_of_released (f := fun s => s.segmentFrameTxEnd x) h

theorem exec_segmentFrameRxEnd_released : exec (.segmentFrameRxEnd x) s = .next (s.segmentFrameRxEnd x).start :=
  event_of_released (f := fun s => s.segmentFrameRxEnd x) h

theorem exec_responseTimerExpiry : exec (.responseTimerExpiry x) s = .next (s.responseTimerExpiry x) :=
  quietEvent_of_released (f := fun s => s.responseTimerExpiry x) h

theorem exec_gapEnd : exec (.gapEnd x) s = .next (s.gapEnd x).start :=
  event_of_released (f := fun s => s.gapEnd x) h

end Events

/-! ## The queue head (R79, R80) -/

theorem isAbsent_updSeg (s : State) (x : Seg) (f : Segment → Segment) (st : Station) :
    (s.updSeg x f).isAbsent st = s.isAbsent st := by
  cases x <;> rfl

/-- An ABSENT head is answered, and the search goes on. -/
theorem takeHead_of_absent (h : s.isAbsent (s.slot t).station = true) :
    State.takeHead x (t :: q) s
      = State.takeHead x q ((s.updSeg x (fun g => { g with queue := q })).turnAway t .absent) := by
  simp only [State.takeHead, isAbsent_updSeg, updSeg_slot, h, if_true]

/-- The first head that is not ABSENT begins its transaction. -/
theorem takeHead_of_present (h : s.isAbsent (s.slot t).station = false) :
    State.takeHead x (t :: q) s = (s.updSeg x (fun g => { g with queue := q })).beginTransaction x t := by
  simp only [State.takeHead, isAbsent_updSeg, updSeg_slot, h, Bool.false_eq_true, if_false]

/-- An empty queue is left as it is. -/
theorem takeHead_of_empty (h : (s.seg x).queue = []) : State.takeHead x [] s = s := by
  rw [State.takeHead, updSeg_self]
  rw [← h]

/-- An idle engine of an ENABLED segment with no probe due takes its queue, which may be empty. -/
theorem dispatch_of_noProbe (hidle : (s.seg x).engine = .idle) (hen : (s.seg x).segState = .enabled)
    (hdue : (s.seg x).probeDue = false) : s.dispatch x = State.takeHead x (s.seg x).queue s := by
  cases hq : (s.seg x).queue with
  | nil => rw [takeHead_of_empty hq, dispatch_eq_self (mayDispatch_of_rest hdue hq)]
  | cons t q =>
    rw [s.dispatch_head hidle hen hq (.inl hdue), updSeg_self]
    rw [← hdue]

end State

open State

/-- Settles O30: the head that a dispatch takes begins its transaction, or is answered and leaves its place to the
rest of the queue. -/
theorem dispatchTakesTheQueueHead : Obligations.DispatchTakesTheQueueHead := by
  unfold Obligations.DispatchTakesTheQueueHead
  intro s x t q hr hidle hen hq hprobe
  have hexec := (exec_dispatch x hr).trans (by rw [s.dispatch_head hidle hen hq hprobe])
  refine ⟨fun hpresent => ?_, ?_⟩
  · rw [hexec, takeHead_of_present (by simpa [isAbsent_updSeg] using s.isAbsent_false hpresent)]
    cases x <;> rfl
  · rintro u i hi habs rfl
    have htaken : State.takeHead x (t :: q) (s.updSeg x (fun g => { g with probeDue := false }))
        = State.takeHead x q ((s.updSeg x (fun g => { g with queue := q, probeDue := false })).turnAway t .absent) := by
      rw [takeHead_of_absent (by simpa [isAbsent_updSeg] using s.isAbsent_true hi habs), updSeg_updSeg]
    rw [htaken] at hexec
    refine ⟨?_, fun hnil => ?_⟩
    · rw [hexec, exec_dispatch x (by simpa using hr), dispatch_of_noProbe (by simpa using hidle) (by simpa using hen)]
      · simp
      · simp
    · rw [hexec, hnil, takeHead_of_empty (by simp)]

namespace State

variable {s : State} {x : Seg}

/-! ## The probe search (R92) -/

theorem getElem_probeOrder (p : StationNo) {n : Nat} (h : n < (probeOrder p).length) :
    (probeOrder p)[n] = p + ⟨n, by simpa [probeOrder, indexes] using h⟩ := by
  simp [probeOrder, indexes]

/-- The station at a place of the search order is that many stations past the pointer. -/
theorem probeOrder_distance (p : StationNo) {n : Nat} (h : n < (probeOrder p).length) :
    ((probeOrder p)[n] - p).val = n := by
  rw [getElem_probeOrder, add_sub_cancel_left]

/-- The search finds the first station, from the pointer up, that is homed on the segment and ABSENT. -/
theorem probeSearch_of_first {i : StationNo} (hhome : (s.station i).home = some x)
    (habs : (s.station i).presence = .absent)
    (hfirst : ∀ j, (j - (s.seg x).probePointer).val < (i - (s.seg x).probePointer).val →
      ¬ ((s.station j).home = some x ∧ (s.station j).presence = .absent)) : s.probeSearch x = some i := by
  have hlen : (i - (s.seg x).probePointer).val < (probeOrder (s.seg x).probePointer).length := by
    simp [probeOrder, indexes]
  rw [probeSearch, List.find?_eq_some_iff_getElem]
  refine ⟨by simp [hhome, habs], (i - (s.seg x).probePointer).val, hlen, ?_, fun n hn => ?_⟩
  · rw [getElem_probeOrder, add_sub_cancel]
  · have hnot := hfirst ((probeOrder (s.seg x).probePointer)[n]'(hn.trans hlen))
      (by rwa [probeOrder_distance])
    simpa [imp_iff_not_or] using hnot

/-! ## Probes (R79, R91 to R93) -/

theorem mayDispatch_of_probeDue {g : Segment} (hidle : g.engine = .idle) (hen : g.segState = .enabled)
    (hdue : g.probeDue = true) : g.mayDispatch = true := by
  simp [Segment.mayDispatch, hidle, hen, hdue]

theorem probeSearch_updSeg {f : Segment → Segment} (h : (f (s.seg x)).probePointer = (s.seg x).probePointer) :
    (s.updSeg x f).probeSearch x = s.probeSearch x := by
  simp [probeSearch, h]

/-- A due probe that has a station to go to is sent. -/
theorem dispatch_of_probe {i : StationNo} (hidle : (s.seg x).engine = .idle) (hen : (s.seg x).segState = .enabled)
    (hdue : (s.seg x).probeDue = true) (hi : s.probeSearch x = some i) :
    s.dispatch x = (s.updSeg x (fun g => { g with probeDue := false })).beginProbe x i := by
  have hs1 : (s.updSeg x (fun g => { g with probeDue := false })).probeSearch x = some i := by
    rw [probeSearch_updSeg rfl, hi]
  rw [dispatch, if_pos (mayDispatch_of_probeDue hidle hen hdue), if_pos hdue]
  simp only [hs1]

/-- A due probe that has no station to go to is dropped, and the queue is taken. -/
theorem dispatch_of_noStation (hidle : (s.seg x).engine = .idle) (hen : (s.seg x).segState = .enabled)
    (hdue : (s.seg x).probeDue = true) (hi : s.probeSearch x = none) :
    s.dispatch x = State.takeHead x (s.seg x).queue (s.updSeg x (fun g => { g with probeDue := false })) := by
  have hs1 : (s.updSeg x (fun g => { g with probeDue := false })).probeSearch x = none := by
    rw [probeSearch_updSeg rfl, hi]
  rw [dispatch, if_pos (mayDispatch_of_probeDue hidle hen hdue), if_pos hdue]
  simp [hs1]

/-- The expiry of a running probe timer makes a probe due and dispatches (R91). -/
theorem probeTimerExpiry_of_running (h : (s.seg x).probeTimer.isSome = true) :
    s.probeTimerExpiry x
      = (s.updSeg x (fun g => { g with probeDue := true, probeTimer := some g.probeInterval })).dispatch x := by
  rw [probeTimerExpiry, if_pos h]

theorem probeTimerExpiry_of_stopped (h : (s.seg x).probeTimer = none) : s.probeTimerExpiry x = s := by
  simp [probeTimerExpiry, h]

end State

/-- Settles O32: the search finds the station that the statement describes, or none. -/
theorem probesFallDueAndAreSent : Obligations.ProbesFallDueAndAreSent := by
  unfold Obligations.ProbesFallDueAndAreSent
  intro s x hr
  refine ⟨fun i hidle hen hdue hhome habs hfirst => ?_, fun hidle hen hdue hno hq => ?_, ?_⟩
  · rw [exec_dispatch x hr, dispatch_of_probe hidle hen hdue (probeSearch_of_first hhome habs hfirst), beginProbe,
      updSeg_updSeg]
    rfl
  · rw [exec_dispatch x hr, dispatch_of_noStation hidle hen hdue (s.probeSearch_none hno), hq,
      takeHead_of_empty (by simpa using hq)]
  · rintro u hrun rfl
    have hexec := (exec_probeTimerExpiry x hr).trans (by rw [probeTimerExpiry_of_running hrun])
    refine ⟨by rw [hexec, exec_dispatch x (by simpa using hr)], fun hnot => ?_⟩
    rw [hexec, dispatch_eq_self]
    rcases hnot with hbusy | hoff
    · exact mayDispatch_of_busy (by simpa using hbusy)
    · exact mayDispatch_of_off (by simpa using hoff)

end Sys2Proof.Machine

/-! # PROOFS. The ends of attempts and of gaps (O34, O37, O39). -/

namespace Sys2Proof.Machine

/-! ## A failed attempt (R85, R93) -/

/-- What the engine goes on carrying after a failed attempt: a slot stays, a probe is over. -/
theorem Segment.failAttempt_eq {g : Segment} {c : Carried} (f : AttemptFailure)
    (h : (∃ t, g.carried = .slot t ∧ c = .slot t) ∨ ∃ i, g.carried = .probe i ∧ c = .nothing) :
    g.failAttempt f = g.enterGap c (if c = .nothing then none else some f) := by
  rcases h with ⟨t, hg, rfl⟩ | ⟨i, hg, rfl⟩ <;> simp [Segment.failAttempt, hg]

namespace State

variable {s : State} {x : Seg}

/-! ## The judgement of a received frame (R82 to R85) -/

/-- A DISABLED segment and a SENDING engine discard the frame. -/
theorem judgeSegmentFrame_discards (frame : Option Response)
    (h : (s.seg x).segState = .disabled ∨ (s.seg x).engine = .sending) : s.judgeSegmentFrame x frame = s := by
  rcases h with h | h
  · simp only [judgeSegmentFrame, h]
  · cases hseg : (s.seg x).segState <;> simp only [judgeSegmentFrame, hseg, h]

/-- Outside AWAITING the frame is a stray. -/
theorem judgeSegmentFrame_stray (frame : Option Response) (hon : (s.seg x).segState ≠ .disabled)
    (h : (s.seg x).engine = .idle ∨ (s.seg x).engine = .gap) :
    s.judgeSegmentFrame x frame = s.updSeg x Segment.stray := by
  cases hseg : (s.seg x).segState with
  | disabled => exact absurd hseg hon
  | enabled => rcases h with h | h <;> simp only [judgeSegmentFrame, hseg, h]
  | draining => rcases h with h | h <;> simp only [judgeSegmentFrame, hseg, h]

/-- A malformed frame ends the attempt of an AWAITING engine. -/
theorem judgeSegmentFrame_malformed (hon : (s.seg x).segState ≠ .disabled) (h : (s.seg x).engine = .awaiting) :
    s.judgeSegmentFrame x none = s.updSeg x Segment.corruptAttempt := by
  cases hseg : (s.seg x).segState with
  | disabled => exact absurd hseg hon
  | enabled => simp only [judgeSegmentFrame, hseg, h]
  | draining => simp only [judgeSegmentFrame, hseg, h]

/-- A response that reaches an AWAITING engine is matched with the carried work, and its status judged. -/
theorem judgeSegmentFrame_response (r : Response) (hon : (s.seg x).segState ≠ .disabled)
    (h : (s.seg x).engine = .awaiting) :
    s.judgeSegmentFrame x (some r) =
      if s.matchesWork (s.seg x).carried r then
        if r.status = 0 ∨ r.status = 1 ∨ r.status = 2 then s.acceptResponse x r
        else s.updSeg x Segment.corruptAttempt
      else s.updSeg x Segment.stray := by
  cases hseg : (s.seg x).segState with
  | disabled => exact absurd hseg hon
  | enabled => simp only [judgeSegmentFrame, hseg, h]
  | draining => simp only [judgeSegmentFrame, hseg, h]

/-- A response does not match work whose station and tag it does not both name. -/
theorem matchesWork_eq_false {c : Carried} {r : Response}
    (hslot : ∀ t, c = .slot t → ¬ (r.station = byteOf (s.slot t).station ∧ r.tag = byteOf t))
    (hprobe : ∀ i, c = .probe i → ¬ (r.station = byteOf (stationOf i) ∧ r.tag = 0)) :
    s.matchesWork c r = false := by
  cases c with
  | nothing => rfl
  | slot t => simpa [matchesWork, imp_iff_not_or] using hslot t rfl
  | probe i => simpa [matchesWork, imp_iff_not_or] using hprobe i rfl

theorem matchesWork_slot {t : Tag} {r : Response} (hst : r.station = byteOf (s.slot t).station)
    (htag : r.tag = byteOf t) : s.matchesWork (.slot t) r = true := by
  simp [matchesWork, hst, htag]

theorem matchesWork_probe {i : StationNo} {r : Response} (hst : r.station = byteOf (stationOf i))
    (htag : r.tag = 0) : s.matchesWork (.probe i) r = true := by
  simp [matchesWork, hst, htag]

/-- A status byte above 2 is none of the three that a station answers with (R82). -/
theorem not_stationStatus {b : Byte} (h : 2 < b.toNat) : ¬ (b = 0 ∨ b = 1 ∨ b = 2) := by
  rintro (rfl | rfl | rfl) <;> exact absurd h (by decide)

theorem matchesWork_updSeg (s : State) (x : Seg) (f : Segment → Segment) (c : Carried) (r : Response) :
    (s.updSeg x f).matchesWork c r = s.matchesWork c r := by
  cases c <;> simp [matchesWork]

/-- A response that does not match the carried work is a stray. -/
theorem judgeSegmentFrame_unmatched {r : Response} (hon : (s.seg x).segState ≠ .disabled)
    (h : (s.seg x).engine = .awaiting) (hmatch : s.matchesWork (s.seg x).carried r = false) :
    s.judgeSegmentFrame x (some r) = s.updSeg x Segment.stray := by
  rw [judgeSegmentFrame_response r hon h, hmatch, if_neg Bool.false_ne_true]

/-- A matching response of another status ends the attempt as a malformed frame does. -/
theorem judgeSegmentFrame_badStatus {r : Response} (hon : (s.seg x).segState ≠ .disabled)
    (h : (s.seg x).engine = .awaiting) (hmatch : s.matchesWork (s.seg x).carried r = true)
    (hstatus : 2 < r.status.toNat) : s.judgeSegmentFrame x (some r) = s.updSeg x Segment.corruptAttempt := by
  rw [judgeSegmentFrame_response r hon h, if_pos hmatch, if_neg (not_stationStatus hstatus)]

/-- A frame that was lost, and one that is judged to be discarded, leaves a READY receiver and nothing else (R82). -/
theorem segmentFrameRxEnd_of_discarded (hrx : (s.seg x).rx.state = .receiving)
    (h : (s.seg x).rx.lost = true ∨ (s.seg x).segState = .disabled ∨ (s.seg x).engine = .sending) :
    s.segmentFrameRxEnd x = s.updSeg x (fun g => { g with rx := Receiver.idle }) := by
  simp only [segmentFrameRxEnd, hrx]
  split
  · rfl
  · next hlost =>
    exact judgeSegmentFrame_discards _ (by simpa using h.resolve_left hlost)

theorem segmentFrameRxEnd_of_ready (hrx : (s.seg x).rx.state = .ready) : s.segmentFrameRxEnd x = s := by
  simp only [segmentFrameRxEnd, hrx]

theorem segmentFrameRxEnd_of_waitIdle (hrx : (s.seg x).rx.state = .waitIdle) :
    s.segmentFrameRxEnd x = s.updSeg x (fun g => { g with rx := Receiver.idle }) := by
  simp only [segmentFrameRxEnd, hrx]

end State

open State

/-- Settles O34, by what the judgement does in each state of the engine. -/
theorem receivedSegmentFrameIsJudged : Obligations.ReceivedSegmentFrameIsJudged := by
  unfold Obligations.ReceivedSegmentFrameIsJudged
  intro s x frame hr hrx hframe
  refine ⟨fun hdiscard => ?_, fun hlost hon hcase => ?_, fun hlost hon hawait carried hcase => ?_⟩
  · rw [exec_segmentFrameRxEnd_released x hr, segmentFrameRxEnd_of_discarded hrx hdiscard]
    rfl
  · rw [exec_segmentFrameRxEnd hr hrx hlost, ← hframe]
    have hstray : State.judgeSegmentFrame (s.updSeg x (fun g => { g with rx := Receiver.idle })) x frame
        = (s.updSeg x (fun g => { g with rx := Receiver.idle })).updSeg x Segment.stray := by
      rcases hcase with hidle | hgap | ⟨hawait, r, rfl, hslot, hprobe⟩
      · exact judgeSegmentFrame_stray _ (by simpa using hon) (.inl (by simpa using hidle))
      · exact judgeSegmentFrame_stray _ (by simpa using hon) (.inr (by simpa using hgap))
      · exact judgeSegmentFrame_unmatched (by simpa using hon) (by simpa using hawait)
          (matchesWork_eq_false (by simpa using hslot) (by simpa using hprobe))
    rw [hstray, updSeg_updSeg]
    rfl
  · have hcarried : (∃ t, (s.seg x).carried = .slot t ∧ carried = .slot t)
        ∨ ∃ i, (s.seg x).carried = .probe i ∧ carried = .nothing :=
      hcase.imp (fun ⟨t, hcar, hc, _⟩ => ⟨t, hcar, hc⟩) (fun ⟨i, hcar, hc, _⟩ => ⟨i, hcar, hc⟩)
    have hbad : frame = none
        ∨ ∃ r, frame = some r ∧ s.matchesWork (s.seg x).carried r = true ∧ 2 < r.status.toNat := by
      rcases hcase with ⟨t, hcar, -, hcase⟩ | ⟨i, hcar, -, hcase⟩
      · exact hcase.imp id fun ⟨r, hr, hst, htag, hstatus⟩ => ⟨r, hr, hcar ▸ matchesWork_slot hst htag, hstatus⟩
      · exact hcase.imp id fun ⟨r, hr, hst, htag, hstatus⟩ => ⟨r, hr, hcar ▸ matchesWork_probe hst htag, hstatus⟩
    have hcorrupt : State.judgeSegmentFrame (s.updSeg x (fun g => { g with rx := Receiver.idle })) x frame
        = (s.updSeg x (fun g => { g with rx := Receiver.idle })).updSeg x Segment.corruptAttempt := by
      rcases hbad with rfl | ⟨r, rfl, hmatch, hstatus⟩
      · exact judgeSegmentFrame_malformed (by simpa using hon) (by simpa using hawait)
      · exact judgeSegmentFrame_badStatus (by simpa using hon) (by simpa using hawait)
          (by rw [matchesWork_updSeg]; simpa using hmatch) hstatus
    rw [exec_segmentFrameRxEnd hr hrx hlost, ← hframe, hcorrupt, updSeg_updSeg]
    refine congrArg (fun u => Host.Outcome.next (State.start u)) (s.updSeg_congr ?_)
    dsimp only [Segment.corruptAttempt]
    rw [Segment.failAttempt_eq (c := carried) .corrupt (by exact hcarried)]
    rfl

namespace State

variable {s : State} {x : Seg}

/-! ## The response timer (R85) -/

theorem responseTimerExpiry_of_running (h : (s.seg x).engine = .awaiting)
    (hrun : (s.seg x).responseTimer.isSome = true) :
    s.responseTimerExpiry x = s.updSeg x Segment.timeoutAttempt := by
  rw [responseTimerExpiry, if_pos ⟨h, hrun⟩]

theorem responseTimerExpiry_of_stopped (h : (s.seg x).engine ≠ .awaiting ∨ (s.seg x).responseTimer = none) :
    s.responseTimerExpiry x = s := by
  rw [responseTimerExpiry, if_neg]
  rintro ⟨hawait, hrun⟩
  rcases h with h | h
  · exact h hawait
  · simp [h] at hrun

/-! ## The end of a gap (R86, R96) -/

/-- A slot within its retry limit and without the final mark is sent again. -/
theorem gapEnd_of_retry {t : Tag} (hgap : (s.seg x).engine = .gap) (ht : (s.seg x).carried = .slot t)
    (hlimit : (s.slot t).attempts ≤ (s.seg x).retryLimit.val) (hmark : (s.seg x).finalMark = false) :
    s.gapEnd x = s.retry x t := by
  have hretries : s.retries x t = true := by simp [retries, hlimit, hmark]
  simp only [gapEnd, hgap, ht, hretries, if_true]

theorem gapEnd_of_nothing (hgap : (s.seg x).engine = .gap) (hc : (s.seg x).carried = .nothing) :
    s.gapEnd x = s.engineRests x := by
  simp only [gapEnd, hgap, hc]

/-- An engine at rest dispatches, unless its segment drains. -/
theorem engineRests_of_undrained (h : (s.seg x).segState ≠ .draining) :
    s.engineRests x = (s.updSeg x Segment.rest).dispatch x := by
  rw [engineRests]
  exact if_neg (by simpa [Segment.rest] using h)

/-- The drain of a segment ends when its engine rests, and the waiting disable is answered. -/
theorem engineRests_of_draining {w : Tag} (h : (s.seg x).segState = .draining)
    (hw : (s.seg x).waitingDisable = some w) :
    s.engineRests x = ((s.updSeg x Segment.rest).updSeg x
      (fun g => { g with segState := .disabled, waitingDisable := none })).endWait w .done .none := by
  have hdrain : ((s.updSeg x Segment.rest).seg x).segState = .draining := by simpa [Segment.rest] using h
  have hwait : ((s.updSeg x Segment.rest).seg x).waitingDisable = some w := by simpa [Segment.rest] using hw
  simp only [engineRests, hdrain, hwait, if_true]

end State

/-- Settles O37: the timer's expiry fails the attempt, and the gap's end sends the carried slot again. -/
theorem attemptsTimeOutAndAreRetried : Obligations.AttemptsTimeOutAndAreRetried := by
  unfold Obligations.AttemptsTimeOutAndAreRetried
  refine ⟨fun s x carried hr hawait hrun hcarried => ?_, fun s x t hr hgap ht hlimit hmark => ?_⟩
  · rw [exec_responseTimerExpiry x hr, responseTimerExpiry_of_running hawait hrun]
    refine congrArg Host.Outcome.next (s.updSeg_congr ?_)
    rw [Segment.timeoutAttempt, Segment.failAttempt_eq _ hcarried]
    rfl
  · rw [exec_gapEnd x hr, gapEnd_of_retry hgap ht hlimit hmark]
    rfl

/-- Settles O39, by the segment's state. -/
theorem gapEndRestsDispatchesOrDrains : Obligations.GapEndRestsDispatchesOrDrains := by
  unfold Obligations.GapEndRestsDispatchesOrDrains
  rintro s m x hr hgap hc rfl
  have hexec := (exec_gapEnd x hr).trans (by rw [gapEnd_of_nothing hgap hc])
  refine ⟨fun hen => ?_, fun hoff => ?_, fun w hdrain hw => ?_⟩
  · rw [hexec, engineRests_of_undrained (by simp [hen]), exec_dispatch x (by simpa using hr)]
    rfl
  · rw [hexec, engineRests_of_undrained (by simp [hoff]),
      dispatch_eq_self (mayDispatch_of_off (by simp [Segment.rest, hoff]))]
    rfl
  · rw [hexec, engineRests_of_draining hdrain hw]
    cases x <;> rfl

end Sys2Proof.Machine

/-! # PROOFS. Outcomes: broadcasts and accepted responses (O33, O35). -/

namespace Sys2Proof.Machine
namespace State

variable {s : State} {t : Tag} {c : Option RecordNo} {st : Status}

/-! ## What an outcome's departure leaves of the claim (R14, R70, R71) -/

/-- The slot that leaves is detached, and is else as it was. -/
theorem leaveEntry_ownSlot (h : s.mayDepart t) (o : Option Status) :
    (s.leaveEntry t o).slot t = { s.slot t with attached := false } := by
  obtain ⟨hslot, _⟩ := s.leaveEntry_effect (o := o) rfl (quiesced_ne_of_mayDepart h)
  rw [hslot, if_pos rfl, s.detached_slot h.2.2]

theorem leaveEntry_claims (h : s.mayDepart t) (o : Option Status) (hc : s.claims t c) :
    (s.leaveEntry t o).claims t c := by
  obtain ⟨hflag, hrec⟩ := hc
  refine ⟨?_, fun n => by rw [leaveEntry_record]; exact hrec n⟩
  rw [leaveEntry_ownSlot h]
  exact hflag

theorem leaveEntry_filledRecord (h : s.mayDepart t) (o : Option Status) :
    (s.leaveEntry t o).filledRecord t c st = s.filledRecord t c st := by
  rw [filledRecord, filledRecord, leaveEntry_ownSlot h]

theorem leaveEntry_slotBuffer (h : s.mayDepart t) (o : Option Status) :
    (s.leaveEntry t o).slotBuffer t = s.slotBuffer t :=
  slotBuffer_congr (by rw [leaveEntry_ownSlot h]) (by simp)

theorem leaveEntry_mayFill {n : Nat} (h : s.mayDepart t) (o : Option Status) (hf : s.mayFill t c st n) :
    (s.leaveEntry t o).mayFill t c st n := by
  simpa only [mayFill, leaveEntry_rst, leaveEntry_filledRecord h, leaveEntry_record, leaveEntry_slotBuffer h] using hf

theorem settles_of_leaveEntry {u : State} (h : s.mayDepart t) (o : Option Status)
    (hu : (s.leaveEntry t o).settles u t c st) : s.settles u t c st := by
  simpa only [settles, leaveEntry_rst, leaveEntry_filledRecord h, leaveEntry_record, leaveEntry_counters] using hu

theorem respond_slotBuffer (s : State) (t v : Tag) (st : Status) (rs : Reason) (src : PayloadSource) :
    (s.respond t st rs src).slotBuffer v = s.slotBuffer v := by
  refine slotBuffer_congr ?_ (by simp)
  rw [respond_slot]
  split <;> rfl

/-! ## What an outcome does (R87, R88) -/

/-- The slot that leaves with an outcome: its entry, its claim with the fill, its answer, and ENTRY_HELD when HOLD is
newly set. -/
theorem handOn_effect (rs : Reason) (src : PayloadSource) (h : s.mayDepart t) (hc : s.claims t c)
    (hf : s.mayFill t c st 0) :
    s.departs (s.handOn t (st, rs, src)) t (Entry.heldBy st) st rs src
      ∧ s.settles (s.handOn t (st, rs, src)) t c st ∧ (s.handOn t (st, rs, src)).ntu = s.heldNotice t st s.ntu := by
  obtain ⟨hslot, hrtp, hmga, hntu⟩ := s.leaveEntry_effect (o := some st) rfl (quiesced_ne_of_mayDepart h)
  obtain ⟨hsslot, hsettles⟩ := settleClaim_settles (leaveEntry_claims h (some st) hc) (leaveEntry_mayFill h (some st) hf)
  refine ⟨⟨fun e => ?_, ?_, fun v hv => ?_, ?_, ?_⟩, ?_, ?_⟩
  · simp only [handOn, respond_entry, settleClaim_entry, leaveEntry_entry]
    rfl
  · simp [handOn, hsslot, leaveEntry_ownSlot h, Slot.answered]
  · simp [handOn, hsslot, hslot, hv]
  · simp [handOn, hrtp, returns]
  · simp [handOn, hmga]
  · have hu := settles_of_leaveEntry h (some st) hsettles
    simpa only [handOn, settles, respond_record, respond_rst, respond_counters, respond_slotBuffer] using hu
  · simp only [handOn, respond_ntu, settleClaim_ntu, hntu, heldNotice]
    cases (s.slot t).attachedEntry with
    | none => rfl
    | some e => simp [Entry.newlyHeld, Entry.asksHold]

/-! ## A transaction's end changes the controller and the buffer first (R83) -/

/-- Two states that agree on all that an outcome reads or changes, but for the frame buffers. -/
structure SameOutcome (s v : State) : Prop where
  slot     : v.slot = s.slot
  entries  : v.entries = s.entries
  rst      : v.rst = s.rst
  rtp      : v.rtp = s.rtp
  ntu      : v.ntu = s.ntu
  mga      : v.mga = s.mga
  counters : v.counters = s.counters

namespace SameOutcome

variable {v u : State}

theorem entry (E : s.SameOutcome v) (e : EntryNo) : v.entry e = s.entry e := by rw [State.entry, E.entries]; rfl

theorem record (E : s.SameOutcome v) (r : RecordNo) : v.record r = s.record r := by rw [State.record, E.rst]; rfl

theorem quiesced (E : s.SameOutcome v) (t : Tag) : v.quiesced t = s.quiesced t := by
  simp only [State.quiesced, E.slot, E.entry]

theorem filledRecord (E : s.SameOutcome v) (t : Tag) (c : Option RecordNo) (st : Status) :
    v.filledRecord t c st = s.filledRecord t c st := by
  simp only [State.filledRecord, E.slot]

theorem mayDepart (E : s.SameOutcome v) (h : s.mayDepart t) : v.mayDepart t := by
  simpa only [State.mayDepart, E.slot, E.quiesced] using h

theorem claims (E : s.SameOutcome v) (h : s.claims t c) : v.claims t c := by
  simpa only [State.claims, E.slot, E.record] using h

/-- The buffer may have grown by a response of `n` bytes. -/
theorem mayFill (E : s.SameOutcome v) {n : Nat} (h : s.mayFill t c st n)
    (hbuf : max n (s.slotBuffer t).length ≤ (v.slotBuffer t).length) : v.mayFill t c st 0 := by
  obtain ⟨hwf, hfit⟩ := h
  refine ⟨by rw [E.rst]; exact hwf, fun r hr => ?_⟩
  rw [E.filledRecord] at hr
  obtain ⟨hend, hlen⟩ := hfit r hr
  rw [E.record]
  exact ⟨hend, by omega⟩

theorem departs (E : s.SameOutcome v) {held : Entry → Bool} {rs : Reason} {src : PayloadSource}
    (h : v.departs u t held st rs src) : s.departs u t held st rs src := by
  simpa only [State.departs, returns, E.slot, E.entry, E.quiesced, E.rtp, E.mga] using h

theorem settles (E : s.SameOutcome v) (h : v.settles u t c st) : s.settles u t c st := by
  simpa only [State.settles, E.record, E.filledRecord, E.rst, E.counters] using h

theorem heldNotice (E : s.SameOutcome v) (n : NoticeUnit) : v.heldNotice t st n = s.heldNotice t st n := by
  simp only [State.heldNotice, E.slot, E.entry]

/-- The outcome of `v`, said of `s`. -/
theorem handOn (E : s.SameOutcome v) {n : Nat} (rs : Reason) (src : PayloadSource) (h : s.mayDepart t)
    (hc : s.claims t c) (hf : s.mayFill t c st n)
    (hbuf : max n (s.slotBuffer t).length ≤ (v.slotBuffer t).length) :
    s.departs (v.handOn t (st, rs, src)) t (Entry.heldBy st) st rs src
      ∧ s.settles (v.handOn t (st, rs, src)) t c st ∧ (v.handOn t (st, rs, src)).ntu = s.heldNotice t st s.ntu := by
  obtain ⟨hdeparts, hsettles, hntu⟩ := handOn_effect rs src (E.mayDepart h) (E.claims hc) (E.mayFill hf hbuf)
  exact ⟨E.departs hdeparts, E.settles hsettles, by rw [hntu, E.heldNotice, E.ntu]⟩

end SameOutcome

theorem sameOutcome_updSeg (s : State) (x : Seg) (f : Segment → Segment) : s.SameOutcome (s.updSeg x f) where
  slot     := funext fun _ => updSeg_slot _ _ _ _
  entries  := updSeg_entries _ _ _
  rst      := updSeg_rst _ _ _
  rtp      := updSeg_rtp _ _ _
  ntu      := updSeg_ntu _ _ _
  mga      := updSeg_mga _ _ _
  counters := updSeg_counters _ _ _

theorem updSeg_slotBuffer (s : State) (x : Seg) (f : Segment → Segment) (t : Tag) :
    (s.updSeg x f).slotBuffer t = s.slotBuffer t :=
  slotBuffer_congr (by simp) (by simp)

/-! ## The end of a segment request frame (R81, R89) -/

section TxEnd

variable {x : Seg}

theorem segmentFrameTxEnd_of_notSending (h : (s.seg x).engine ≠ .sending) : s.segmentFrameTxEnd x = s := by
  cases he : (s.seg x).engine with
  | sending => exact absurd he h
  | idle => simp only [segmentFrameTxEnd, he]
  | awaiting => simp only [segmentFrameTxEnd, he]
  | gap => simp only [segmentFrameTxEnd, he]

/-- A probe and a slot of a station await their response. -/
theorem segmentFrameTxEnd_of_station (h : (s.seg x).engine = .sending)
    (hc : (∃ t, (s.seg x).carried = .slot t ∧ (s.slot t).station ≠ 0) ∨ ∃ i, (s.seg x).carried = .probe i) :
    s.segmentFrameTxEnd x = s.updSeg x (fun g =>
      { g with engine := .awaiting, responseTimer := some g.respTimeout, frame := [] }) := by
  rcases hc with ⟨t, ht, hst⟩ | ⟨i, hi⟩
  · simp only [segmentFrameTxEnd, h, ht, if_neg hst]
  · simp only [segmentFrameTxEnd, h, hi]

/-- A broadcast is done. -/
theorem segmentFrameTxEnd_of_broadcast (h : (s.seg x).engine = .sending) (ht : (s.seg x).carried = .slot t)
    (hst : (s.slot t).station = 0) :
    s.segmentFrameTxEnd x
      = (s.updSeg x (fun g => g.enterGap .nothing none)).handOn t (.done, .none, .buffer 0) := by
  simp only [segmentFrameTxEnd, h, ht, if_pos hst]
  exact handOn_updSeg _ _ _ _ _

end TxEnd

/-! ## An accepted response (R83, R87, R104) -/

section Accepted

variable {x : Seg} {r : Response}

/-- The payload stands at the start of the slot's buffer, and the bytes after it stay (R47, R83). -/
theorem storeResponse_frameBuffers {k : Fin 24} (hk : (s.slot t).frameBuf = some k) (p : List Byte) (j : Fin 24) :
    (s.storeResponse t p).ort.frameBuffers[j]
      = if j = k then p ++ s.ort.frameBuffers[k].drop p.length else s.ort.frameBuffers[j] := by
  cases p with
  | nil =>
    simp only [storeResponse, List.nil_append, List.length_nil, List.drop_zero]
    split
    · next h => rw [h]
    · rfl
  | cons b bs =>
    simp only [storeResponse, hk, writeFrameBuffer_get]
    split
    · next h => rw [h]
    · rfl

/-- The work of an AWAITING engine is done: the state in which the outcome of its slot is handed on. -/
def responded (s : State) (x : Seg) (t : Tag) (p : List Byte) : State :=
  ((s.updSeg x (fun g => { g with rx := Receiver.idle }.enterGap .nothing none)).storeResponse t p).requestSuccess
    (s.slot t).station

theorem responded_slot (p : List Byte) (v : Tag) : (s.responded x t p).slot v = s.slot v := by
  simp [responded, storeResponse_slot]

theorem sameOutcome_responded (p : List Byte) : s.SameOutcome (s.responded x t p) where
  slot     := funext fun v => responded_slot p v
  entries  := by simp [responded]
  rst      := by simp [responded]
  rtp      := by simp [responded]
  ntu      := by simp [responded]
  mga      := by simp [responded]
  counters := by simp [responded]

theorem responded_frameBuffers {k : Fin 24} (hk : (s.slot t).frameBuf = some k) (p : List Byte) (j : Fin 24) :
    (s.responded x t p).ort.frameBuffers[j]
      = if j = k then p ++ s.ort.frameBuffers[k].drop p.length else s.ort.frameBuffers[j] := by
  simp only [responded, requestSuccess_ort]
  rw [storeResponse_frameBuffers (by simpa using hk), updSeg_ort]

theorem responded_slotBuffer {k : Fin 24} (hk : (s.slot t).frameBuf = some k) (p : List Byte) :
    (s.responded x t p).slotBuffer t = p ++ (s.slotBuffer t).drop p.length := by
  simp only [slotBuffer, responded_slot, hk]
  rw [responded_frameBuffers hk, if_pos rfl]

theorem requestSuccess_stationOf (s : State) (i n : StationNo) :
    (s.requestSuccess (stationOf i)).station n = if n = i then (s.station n).succeed else s.station n := by
  simp [requestSuccess, stationRecordOf_stationOf]

/-- An accepted response of a carried slot is judged to the outcome of its status, function and length. -/
theorem judgeSegmentFrame_accepted (hon : (s.seg x).segState ≠ .disabled) (hawait : (s.seg x).engine = .awaiting)
    (ht : (s.seg x).carried = .slot t) (hst : r.station = byteOf (s.slot t).station) (htag : r.tag = byteOf t)
    (hstatus : r.status = 0 ∨ r.status = 1 ∨ r.status = 2) :
    (s.updSeg x (fun g => { g with rx := Receiver.idle })).judgeSegmentFrame x (some r)
      = (s.responded x t r.payload).handOn t (acceptedOutcome (s.slot t) r.status r.payload.length) := by
  have hcar : ((s.updSeg x (fun g => { g with rx := Receiver.idle })).seg x).carried = .slot t := by simpa using ht
  rw [judgeSegmentFrame_response r (by simpa using hon) (by simpa using hawait), hcar, matchesWork_updSeg,
    if_pos (matchesWork_slot hst htag), if_pos hstatus, acceptResponse_slot hcar, updSeg_updSeg, updSeg_slot]
  rfl

end Accepted

end State

/-- The outcome that an accepted response gives (R87). -/
theorem acceptedOutcome_eq {sl : Slot} {r : Response} {st : Status} {rs : Reason} {src : PayloadSource}
    (h : r.status = 1 ∧ st = .busy ∧ rs = .station ∧ src = .none
      ∨ r.status = 2 ∧ st = .refused ∧ rs = .station ∧ src = .none
      ∨ r.status = 0 ∧ rs = .none ∧
        ((sl.function = 1 ∨ sl.function = 3) ∧
          (r.payload.length = sl.reqLen.toNat ∧ st = .done ∧ src = .buffer r.payload.length
          ∨ r.payload.length < sl.reqLen.toNat ∧ st = .short ∧ src = .buffer r.payload.length
          ∨ sl.reqLen.toNat < r.payload.length ∧ st = .overrun ∧ src = .none)
        ∨ (sl.function = 2 ∨ sl.function = 4) ∧
          (r.payload = [] ∧ st = .done ∧ src = .buffer 0 ∨ r.payload ≠ [] ∧ st = .overrun ∧ src = .none))) :
    (r.status = 0 ∨ r.status = 1 ∨ r.status = 2)
      ∧ acceptedOutcome sl r.status r.payload.length = (st, rs, src) := by
  rcases h with ⟨hs, rfl, rfl, rfl⟩ | ⟨hs, rfl, rfl, rfl⟩ | ⟨hs, rfl, ⟨hf, hlen⟩ | ⟨hf, hlen⟩⟩
  · exact ⟨.inr (.inl hs), by rw [hs]; rfl⟩
  · exact ⟨.inr (.inr hs), by rw [hs]; rfl⟩
  · have hback : readsBack sl.function = true := (readsBack_iff _).2 hf
    refine ⟨.inl hs, ?_⟩
    rcases hlen with ⟨hl, rfl, rfl⟩ | ⟨hl, rfl, rfl⟩ | ⟨hl, rfl, rfl⟩
    · simp [acceptedOutcome, hs, hback, hl]
    · simp [acceptedOutcome, hs, hback, hl, hl.ne]
    · simp [acceptedOutcome, hs, hback, hl.ne', hl.not_gt]
  · have hback : readsBack sl.function = false := by rcases hf with hf | hf <;> rw [hf] <;> rfl
    refine ⟨.inl hs, ?_⟩
    rcases hlen with ⟨hl, rfl, rfl⟩ | ⟨hl, rfl, rfl⟩ <;> simp [acceptedOutcome, hs, hback, hl]

open State

/-- Settles O33: the frame of a station is awaited, and a broadcast is handed on as DONE. -/
theorem segmentFrameEndAwaitsOrCompletesBroadcast : Obligations.SegmentFrameEndAwaitsOrCompletesBroadcast := by
  unfold Obligations.SegmentFrameEndAwaitsOrCompletesBroadcast
  intro s x hr hsend
  refine ⟨fun hc => ?_, fun t c ht hst hdep hcl hfill => ?_⟩
  · rw [exec_segmentFrameTxEnd x hr, segmentFrameTxEnd_of_station hsend hc]
  · have hexec := exec_segmentFrameTxEnd x hr
    rw [segmentFrameTxEnd_of_broadcast hsend ht hst] at hexec
    obtain ⟨hdeparts, hsettles, hntu⟩ := (s.sameOutcome_updSeg x (fun g => g.enterGap .nothing none)).handOn .none
      (.buffer 0) hdep hcl hfill (by simp [updSeg_slotBuffer])
    refine ⟨_, hexec, hdeparts, hsettles, hntu, ?_, fun y hy => ?_, ?_, ?_, ?_⟩
    · simp [Segment.enterGap, Config.gapTicks]
    · simp [hy]
    · simp
    · simp [sameBuffers]
    · simp [sameLink]

/-- Settles O35: the response is stored and reported, then its outcome handed on. -/
theorem acceptedResponseEndsTransaction : Obligations.AcceptedResponseEndsTransaction := by
  unfold Obligations.AcceptedResponseEndsTransaction
  intro s x t i k r c st rs src hr hrx hlost hon hawait ht hframe hi hst htag hk hdep hcl hfill hcase
  obtain ⟨hstatus, hout⟩ := acceptedOutcome_eq hcase
  have hexec := exec_segmentFrameRxEnd hr hrx hlost
  rw [hframe, judgeSegmentFrame_accepted hon hawait ht hst htag hstatus, hout] at hexec
  obtain ⟨hdeparts, hsettles, hntu⟩ := (s.sameOutcome_responded (x := x) r.payload).handOn rs src hdep hcl hfill
    (by rw [responded_slotBuffer hk]; simp; omega)
  have hstation (n) : ((s.responded x t r.payload).handOn t (st, rs, src)).station n
      = if n = i then (s.station n).succeed else s.station n := by
    rw [handOn_station, responded, ← hi, requestSuccess_stationOf]
    simp
  refine ⟨_, hexec, hdeparts, hsettles, hntu, ?_, fun n hn => ?_, fun j => ?_, ?_, ?_, ?_, fun y hy => ?_, ?_⟩
  · rw [hstation, if_pos rfl]
    rfl
  · rw [hstation, if_neg hn]
  · rw [handOn_frameBuffers, responded_frameBuffers hk]
  · simp [responded]
  · simp [responded]
  · simp [responded, Segment.enterGap, Config.gapTicks, Receiver.idle]
  · simp [responded, hy]
  · simp [sameLink, responded]

end Sys2Proof.Machine

/-! # PROOFS. The commands on segments (O10, O11). -/

namespace Sys2Proof.Machine

/-! ## The verdict of SEGMENT_ENABLE (R98) -/

section Verdicts

variable {s : State} {x : Seg}

theorem cmdSegmentEnable_of_enabled (hx : (s.seg x).segState = .enabled) (hrest : (s.seg x).mayDispatch = false) :
    cmdSegmentEnable s (segCode x) = .done s := by
  simp only [cmdSegmentEnable, segOf_segCode, hx, State.dispatch_eq_self hrest]

theorem cmdSegmentEnable_of_disabled (hx : (s.seg x).segState = .disabled) (hq : (s.seg x).queue = []) :
    cmdSegmentEnable s (segCode x) = .done (s.updSeg x Segment.enable) := by
  have hrest : (((s.updSeg x Segment.enable)).seg x).mayDispatch = false :=
    State.mayDispatch_of_rest (by simp [Segment.enable]) (by simpa [Segment.enable] using hq)
  simp only [cmdSegmentEnable, segOf_segCode, hx, State.dispatch_eq_self hrest]

theorem cmdSegmentEnable_of_draining {t : Tag} (hx : (s.seg x).segState = .draining) (hq : (s.seg x).queue = [])
    (hw : (s.seg x).waitingDisable = some t) :
    cmdSegmentEnable s (segCode x)
      = .done ((s.updSeg x (fun g => { g.enable with waitingDisable := none })).overtake t .segmentDisable) := by
  have hrest : ((((s.updSeg x (fun g => { g.enable with waitingDisable := none })).overtake t
      .segmentDisable)).seg x).mayDispatch = false :=
    State.mayDispatch_of_rest (by simp [Segment.enable]) (by simpa [Segment.enable] using hq)
  simp only [cmdSegmentEnable, segOf_segCode, hx, hw, State.dispatch_eq_self hrest]

/-! ## The verdict of SEGMENT_DISABLE (R95, R97) -/

/-- Step 2 of a disable: no probe falls due any more, and the queued slots are answered (R91, R95). -/
def State.downed (s : State) (x : Seg) : State :=
  State.answerDown (s.seg x).queue
    (s.updSeg x (fun g => { g with probeTimer := none, probeDue := false, queue := [] }))

theorem cmdSegmentDisable_of_disabled (t : Tag) (hx : (s.seg x).segState = .disabled) :
    cmdSegmentDisable s t (segCode x) = .done s := by
  simp only [cmdSegmentDisable, segOf_segCode, hx]

theorem cmdSegmentDisable_of_draining (t : Tag) (hx : (s.seg x).segState = .draining) :
    cmdSegmentDisable s t (segCode x) = .refused .refused .pending := by
  simp only [cmdSegmentDisable, segOf_segCode, hx]

/-- Step 3 of a disable: with no work on the engine the segment is disabled, else the command waits for the drain, and
a carried slot gets no further attempt (R95). -/
def State.disableOrDrain (s : State) (x : Seg) (t : Tag) : Carried → Verdict
  | .nothing => .done (s.updSeg x (fun g => { g with segState := .disabled }))
  | .slot _ => .waits (s.beginDrain x t true)
  | .probe _ => .waits (s.beginDrain x t false)

theorem cmdSegmentDisable_of_enabled (t : Tag) (hx : (s.seg x).segState = .enabled) :
    cmdSegmentDisable s t (segCode x) = (s.downed x).disableOrDrain x t (s.seg x).carried := by
  cases hc : (s.seg x).carried <;> simp only [cmdSegmentDisable, segOf_segCode, hx, hc] <;> rfl

end Verdicts

/-! ## Commands that are answered at once -/

section Answered

variable {s : State} {h : WriteHead} {c : CommandObject} {p : List Byte} {k : Fin 4}

/-- A command that finds nothing to do is answered DONE. -/
theorem command_unchanged (hs : s.reachesAgent h.tag k) (hp : h.position = 0) (hl : p.length = c.argSize)
    (hu : runCommand (s.readyRx.countFrame.occupyMgmt (commandRequest h c p) k) h.tag p c
      = .done (s.readyRx.countFrame.occupyMgmt (commandRequest h c p) k)) :
    ∃ u, requestEvent (commandRequest h c p) s = .next u.start
      ∧ s.agentDone u (commandRequest h c p) k ∧ s.sameTables u := by
  obtain ⟨hrec, hself, hbuf, hret, hsame⟩ := (s.occupyMgmt_takenForStore (commandRequest h c p) k).respond
  obtain ⟨hentries, hsegA, hsegB, hrest⟩ := hsame
  refine ⟨_, requestEvent_command_done hs hp hl hu, ⟨hrec, hself, fun v hv => ?_, hbuf, hret⟩,
    hentries, rfl, hsegA, hsegB, hrest⟩
  rw [State.respond_slot, if_neg (show v ≠ h.tag from hv)]
  exact s.otherSlots_occupyMgmt _ k v hv

/-- A command that changes one segment controller is answered DONE and changes nothing else. -/
theorem segmentCommand_done {x : Seg} {f : Segment → Segment} (hs : s.reachesAgent h.tag k) (hp : h.position = 0)
    (hl : p.length = c.argSize)
    (hu : runCommand (s.readyRx.countFrame.occupyMgmt (commandRequest h c p) k) h.tag p c
      = .done ((s.readyRx.countFrame.occupyMgmt (commandRequest h c p) k).updSeg x f)) :
    ∃ u, requestEvent (commandRequest h c p) s = .next u.start
      ∧ s.agentDone u (commandRequest h c p) k ∧ u.seg x = f (s.seg x) ∧ s.sameButSegment u x := by
  have htag : (commandRequest h c p).tag = h.tag := rfl
  refine ⟨_, requestEvent_command_done hs hp hl hu, ⟨?_, ?_, fun v hv => ?_, ?_, ?_⟩, ?_, ?_, ?_, fun y hy => ?_, ?_⟩
  · simp [State.received]
  · simp [htag, Slot.answered]
  · simp [show v ≠ h.tag from hv, htag]
  · simp [State.sameBuffers]
  · simp [State.returns, htag]
  · simp
  · simp
  · simp
  · simp [hy]
  · simp [State.sameRest]

end Answered

open State

/-- An enable that overtakes a waiting disable: the disable is answered ahead of it (R98, R157). -/
theorem segmentEnable_overtakes {s : State} {h : WriteHead} {k : Fin 4} {x : Seg} {t : Tag}
    (hs : s.reachesAgent h.tag k) (hp : h.position = 0) (hx : (s.seg x).segState = .draining)
    (hq : (s.seg x).queue = []) (hd : (s.seg x).waitingDisable = some t) (hw : (s.slot t).state = .waiting) :
    ∃ u, exec (.segmentEnable h (segCode x)) s = .next u.start
      ∧ s.received u ∧ s.sameBuffers u ∧ s.returns u [t, h.tag]
      ∧ u.slot h.tag = (mgmtSlot (commandRequest h .segmentEnable [segCode x]) k).answered .done .none .none
      ∧ u.slot t = (s.slot t).answered .refused .overtaken .none
      ∧ (∀ v, v ≠ h.tag → v ≠ t → u.slot v = s.slot v)
      ∧ u.seg x = { s.seg x with
          segState := .enabled, probeTimer := some (s.seg x).probeInterval, probeDue := false,
          waitingDisable := none }
      ∧ u.mga = { s.mga with pendingRecords := s.mga.pendingRecords.filter (fun r => r.tag ≠ t) }
      ∧ u.ntu = s.ntu.raise nodeMgmtRefused 0x0047
      ∧ u.entries = s.entries ∧ u.rst = s.rst ∧ (∀ y, y ≠ x → u.seg y = s.seg y) ∧ u.stations = s.stations := by
  have htag : (commandRequest h .segmentEnable [segCode x]).tag = h.tag := rfl
  have hne : t ≠ h.tag := ne_tag_of_waiting hs hw
  have hslot (b : State) (v : Tag) : (b.overtake t .segmentDisable).slot v
      = if v = t then (b.slot v).answered .refused .overtaken .none else b.slot v := by
    simp [State.overtake, Slot.answered]
  refine ⟨_, requestEvent_command_done hs hp rfl
      (cmdSegmentEnable_of_draining (by simpa using hx) (by simpa using hq) (by simpa using hd)),
    ?_, ?_, ?_, ?_, ?_, fun v hvt hvw => ?_, ?_, ?_, ?_, ?_, ?_, fun y hy => ?_, ?_⟩
  · simp [State.received]
  · simp [State.sameBuffers]
  · simp [State.returns, State.overtake]
  · simp [hslot, htag, hne.symm, Slot.answered]
  · simp [hslot, htag, hne]
  · simp [hslot, htag, hvt, hvw]
  · simp [Segment.enable]
  · simp [State.overtake]
  · simp [State.overtake, CommandObject.number]
  · simp
  · simp
  · simp [hy]
  · simp

/-- Settles O10, by the segment's state. -/
theorem segmentEnableEnables : Obligations.SegmentEnableEnables := by
  unfold Obligations.SegmentEnableEnables
  refine fun s h k x hs hp => ⟨fun hx hq => ?_, fun t hx hq hd hw => segmentEnable_overtakes hs hp hx hq hd hw,
    fun hx hrest => ?_⟩
  · exact segmentCommand_done (c := .segmentEnable) (f := Segment.enable) hs hp rfl
      (cmdSegmentEnable_of_disabled (by simpa using hx) (by simpa using hq))
  · exact command_unchanged (c := .segmentEnable) hs hp rfl
      (cmdSegmentEnable_of_enabled (by simpa using hx) (by simpa using hrest))

/-! ## The queue of a disabled segment (R95) -/

namespace State

variable {s u : State} {x : Seg} {t : Tag}

/-- The slots of a list are answered SEGMENT_DOWN, in its order, and nothing else changes. -/
structure AnsweredDown (s u : State) (l : List Tag) : Prop where
  slot : ∀ v, u.slot v = if v ∈ l then (s.slot v).answered .segmentDown .none .none else s.slot v
  rest : u = { s with ort := { s.ort with slots := u.ort.slots }, rtp := { s.rtp with queue := s.rtp.queue ++ l } }

/-- A slot that is not attached and holds no claim is only answered. -/
theorem turnAway_of_unheld (ha : (s.slot t).attached = false) (hc : (s.slot t).fillClaim = false) (st : Status) :
    s.turnAway t st = s.respond t st .none .none := by
  have hleave : s.leaveEntry t none = s := leaveEntry_of_unattached (by simp [Slot.attachedEntry, ha])
  have hrelease : s.releaseClaim t = s := by simp [releaseClaim, claimedRecord, hc]
  rw [turnAway, hleave, hrelease]

/-- The queued slots that hold nothing are answered in queue order. -/
theorem answerDown_answeredDown (l : List Tag)
    (h : ∀ t ∈ l, (s.slot t).attached = false ∧ (s.slot t).fillClaim = false) :
    s.AnsweredDown (State.answerDown l s) l := by
  induction l generalizing s with
  | nil => exact ⟨fun v => by simp [State.answerDown], by simp [State.answerDown]⟩
  | cons t l ih =>
    obtain ⟨ha, hc⟩ := h t List.mem_cons_self
    have hone (v : Tag) : (s.respond t .segmentDown .none .none).slot v
        = if v = t then (s.slot v).answered .segmentDown .none .none else s.slot v := respond_slot _ _ _ _ _ _
    have hl : ∀ v ∈ l, ((s.respond t .segmentDown .none .none).slot v).attached = false
        ∧ ((s.respond t .segmentDown .none .none).slot v).fillClaim = false := by
      intro v hv
      rw [hone]
      split <;> exact h v (List.mem_cons_of_mem _ hv)
    obtain ⟨hslot, hrest⟩ := ih hl
    rw [State.answerDown, turnAway_of_unheld ha hc]
    refine ⟨fun v => ?_, hrest.trans ?_⟩
    · rw [hslot, hone]
      by_cases hv : v = t <;> by_cases hm : v ∈ l <;> simp [hv, hm, Slot.answered]
    · simp only [respond, updReturn, List.append_assoc, List.singleton_append]
      rfl

/-- What a disable has done when its request, of tag `t`, took its slot and the queue of segment `x` was answered:
all that it does but for that slot, the controller, the agent and the return queue's tail. -/
structure Downed (s u : State) (x : Seg) (t : Tag) : Prop where
  received : s.received u
  buffers  : s.sameBuffers u
  entries  : u.entries = s.entries
  rst      : u.rst = s.rst
  others   : ∀ y, y ≠ x → u.seg y = s.seg y
  stations : u.stations = s.stations
  ntu      : u.ntu = s.ntu
  slots    : ∀ v, v ≠ t → u.slot v
    = if v ∈ (s.seg x).queue then (s.slot v).answered .segmentDown .none .none else s.slot v

namespace Downed

theorem updSeg (D : s.Downed u x t) (f : Segment → Segment) : s.Downed (u.updSeg x f) x t where
  received := by simpa [State.received] using D.received
  buffers  := by simpa [State.sameBuffers] using D.buffers
  entries  := by simpa using D.entries
  rst      := by simpa using D.rst
  others   := fun y hy => by simpa [hy] using D.others y hy
  stations := by simpa using D.stations
  ntu      := by simpa using D.ntu
  slots    := fun v hv => by simpa using D.slots v hv

theorem respond (D : s.Downed u x t) (st : Status) (rs : Reason) (src : PayloadSource) :
    s.Downed (u.respond t st rs src) x t where
  received := by simpa [State.received] using D.received
  buffers  := by simpa [State.sameBuffers] using D.buffers
  entries  := by simpa using D.entries
  rst      := by simpa using D.rst
  others   := fun y hy => by simpa using D.others y hy
  stations := by simpa using D.stations
  ntu      := by simpa using D.ntu
  slots    := fun v hv => by simpa [hv] using D.slots v hv

theorem beginWait (D : s.Downed u x t) (c : WaitingCommand) : s.Downed (u.beginWait t c) x t where
  received := by simpa [State.received] using D.received
  buffers  := by simpa [State.sameBuffers] using D.buffers
  entries  := by simpa using D.entries
  rst      := by simpa using D.rst
  others   := fun y hy => by simpa using D.others y hy
  stations := by simpa using D.stations
  ntu      := by simpa using D.ntu
  slots    := fun v hv => by simpa [hv] using D.slots v hv

end Downed

/-- The request has its slot, and the queue is answered. -/
theorem downed_effect {q : Request} {k : Fin 4} (hq : q.tag ∉ (s.seg x).queue)
    (hfree : ∀ t ∈ (s.seg x).queue, (s.slot t).attached = false ∧ (s.slot t).fillClaim = false) :
    s.Downed ((s.readyRx.countFrame.occupyMgmt q k).downed x) x q.tag
      ∧ ((s.readyRx.countFrame.occupyMgmt q k).downed x).slot q.tag = mgmtSlot q k
      ∧ s.returns ((s.readyRx.countFrame.occupyMgmt q k).downed x) (s.seg x).queue
      ∧ ((s.readyRx.countFrame.occupyMgmt q k).downed x).mga = s.mga
      ∧ ((s.readyRx.countFrame.occupyMgmt q k).downed x).seg x
        = { s.seg x with probeTimer := none, probeDue := false, queue := [] } := by
  generalize hb : (s.readyRx.countFrame.occupyMgmt q k).updSeg x
    (fun g => { g with probeTimer := none, probeDue := false, queue := [] }) = b
  have hbslot (v : Tag) : b.slot v = if v = q.tag then mgmtSlot q k else s.slot v := by
    rw [← hb]
    simp
  have hbD : s.received b ∧ s.sameBuffers b ∧ b.entries = s.entries ∧ b.rst = s.rst ∧ b.stations = s.stations
      ∧ b.ntu = s.ntu ∧ b.rtp = s.rtp ∧ b.mga = s.mga := by
    rw [← hb]
    simp [State.received, State.sameBuffers]
  have hbseg (y : Seg) : b.seg y
      = if y = x then { s.seg x with probeTimer := none, probeDue := false, queue := [] } else s.seg y := by
    rw [← hb, updSeg_seg]
    split
    · next h => rw [h]; simp
    · simp
  have hdowned : (s.readyRx.countFrame.occupyMgmt q k).downed x = State.answerDown (s.seg x).queue b := by
    rw [State.downed, hb]
    simp
  rw [hdowned]
  obtain ⟨hslot, hrest⟩ := answerDown_answeredDown (s := b) (s.seg x).queue fun v hv => by
    rw [hbslot, if_neg (ne_of_mem_of_not_mem hv hq)]
    exact hfree v hv
  generalize State.answerDown (s.seg x).queue b = u at hslot hrest
  obtain ⟨⟨hcount, hrx, hreset, hindex, hpending⟩, ⟨hframe, hmgmt, hclash⟩, hentries, hrst, hstations, hntu, hrtp,
    hmga⟩ := hbD
  have hseg (y : Seg) : u.seg y = b.seg y := by
    rw [hrest]
    cases y <;> rfl
  refine ⟨{ received := ?_, buffers := ?_, entries := ?_, rst := ?_, others := fun y hy => ?_, stations := ?_, ntu := ?_,
            slots := fun v hv => ?_ }, ?_, ?_, ?_, ?_⟩
  · rw [hrest]
    exact ⟨hcount, hrx, hreset, hindex, hpending⟩
  · rw [hrest]
    exact ⟨hframe, hmgmt, hclash⟩
  · rw [hrest]
    exact hentries
  · rw [hrest]
    exact hrst
  · rw [hseg, hbseg, if_neg hy]
  · rw [hrest]
    exact hstations
  · rw [hrest]
    exact hntu
  · rw [hslot, hbslot, if_neg hv]
  · rw [hslot, if_neg hq, hbslot, if_pos rfl]
  · rw [State.returns, hrest, ← hrtp]
  · rw [hrest]
    exact hmga
  · rw [hseg, hbseg, if_pos rfl]

end State

end Sys2Proof.Machine

/-! # PROOFS. A disable takes the queue head by head (O11). -/

namespace Sys2Proof.Machine
namespace State

variable {s : State} {x : Seg} {q : Request} {k : Fin 4} {t : Tag}

/-! ## A request that takes its slot, and the departure of another one -/

/-- The arrival of a management request: its receipt, its slot and its buffer (R36, R159). -/
abbrev taken (s : State) (q : Request) (k : Fin 4) : State := s.readyRx.countFrame.occupyMgmt q k

theorem taken_eq (s : State) (q : Request) (k : Fin 4) :
    s.taken q k = (s.readyRx.countFrame).updSlot q.tag (fun _ => mgmtSlot q k) := by
  simp [taken, occupyMgmt, occupy, updSlot, upd, mgmtSlot]

theorem taken_slot (s : State) {v : Tag} (hv : v ≠ q.tag) : (s.taken q k).slot v = s.slot v := by
  rw [occupyMgmt_slot, if_neg hv]
  rfl

theorem taken_updSlot (s : State) {v : Tag} (hv : v ≠ q.tag) (f : Slot → Slot) :
    (s.taken q k).updSlot v f = (s.updSlot v f).taken q k := by
  have hval : ¬ q.tag.val = v.val := fun e => hv (Fin.ext e.symm)
  rw [taken_eq, taken_eq]
  simp only [updSlot, upd, readyRx, countFrame, updCounters]
  simp [hval, Vector.set_comm _ _ hval]

theorem taken_respond (s : State) {v : Tag} (hv : v ≠ q.tag) (st : Status) (rs : Reason) (src : PayloadSource) :
    (s.taken q k).respond v st rs src = (s.respond v st rs src).taken q k := by
  unfold respond
  rw [taken_updSlot s hv]
  rfl

theorem taken_endWait (s : State) {v : Tag} (hv : v ≠ q.tag) (st : Status) (rs : Reason) :
    (s.taken q k).endWait v st rs = (s.endWait v st rs).taken q k := by
  rw [endWait, endWait, ← taken_respond _ hv]
  rfl

theorem taken_updEntry (s : State) (q : Request) (k : Fin 4) (e : EntryNo) (f : Entry → Entry) :
    (s.taken q k).updEntry e f = (s.updEntry e f).taken q k := rfl

theorem taken_completeQuiesce (s : State) {e : EntryNo} (h : (s.entry e).holder ≠ some q.tag) :
    (s.taken q k).completeQuiesce e = (s.completeQuiesce e).taken q k := by
  have hentry : (s.taken q k).entry e = s.entry e := rfl
  cases hh : (s.entry e).holder with
  | none => rw [completeQuiesce_none _ hh, completeQuiesce_none _ (by rw [hentry, hh])]
  | some v =>
    have hv : v ≠ q.tag := fun hv => h (hh.trans (congrArg some hv))
    rw [completeQuiesce_some _ hh, completeQuiesce_some _ (by rw [hentry, hh]), taken_updEntry, taken_endWait _ hv]

theorem taken_detached (s : State) (ht : t ≠ q.tag) (e : EntryNo) (o : Option Status) :
    (s.taken q k).detached t e o = (s.detached t e o).taken q k := by
  have hentry : (s.taken q k).entry e = s.entry e := rfl
  unfold detached
  rw [hentry, taken_updSlot s ht]
  split <;> rfl

/-- The quiesce that a departure ends, read off the entry after the decrement (R21). -/
theorem detached_holder (s : State) (t : Tag) (e : EntryNo) (o : Option Status) :
    ((s.detached t e o).entry e).holder = (s.entry e).holder
      ∧ ((s.detached t e o).entry e).inFlight = (s.entry e).inFlight - 1 := by
  unfold detached
  split <;> simp [Entry.depart]

theorem taken_leaveEntry (s : State) (ht : t ≠ q.tag) (hq : s.quiesced t ≠ some q.tag) (o : Option Status) :
    (s.taken q k).leaveEntry t o = (s.leaveEntry t o).taken q k := by
  have hslot : ((s.taken q k).slot t).attachedEntry = (s.slot t).attachedEntry := by rw [taken_slot s ht]
  cases he : (s.slot t).attachedEntry with
  | none => rw [leaveEntry_of_unattached he, leaveEntry_of_unattached (hslot.trans he)]
  | some e =>
    obtain ⟨hholder, hflight⟩ := s.detached_holder t e o
    have hentry : (((s.detached t e o).taken q k).entry e) = (s.detached t e o).entry e := rfl
    rw [leaveEntry_of_attached he, leaveEntry_of_attached (hslot.trans he), taken_detached s ht, hentry]
    split
    · next hz =>
      have hlast : (s.entry e).inFlight ≤ 1 := by omega
      refine taken_completeQuiesce _ ?_
      rw [hholder]
      simpa [quiesced, he, hlast] using hq
    · rfl

theorem taken_releaseClaim (s : State) (ht : t ≠ q.tag) :
    (s.taken q k).releaseClaim t = (s.releaseClaim t).taken q k := by
  have hclaimed : (s.taken q k).claimedRecord t = s.claimedRecord t := by
    unfold claimedRecord
    rw [taken_slot s ht]
    rfl
  unfold releaseClaim
  rw [hclaimed]
  cases hc : s.claimedRecord t with
  | none => rfl
  | some r =>
    have hclaim : (s.record r).claim = some t := by
      simp only [claimedRecord] at hc
      split at hc
      · simpa using List.find?_some hc
      · cases hc
    have hrecord : (s.taken q k).record r = s.record r := rfl
    simp only [dropClaim, hrecord, hclaim]
    exact taken_updSlot (s.updRecord r _) ht _

/-- A departure and the arrival of a request of another tag commute. -/
theorem taken_turnAway (s : State) (ht : t ≠ q.tag) (hq : s.quiesced t ≠ some q.tag) (st : Status) :
    (s.taken q k).turnAway t st = (s.turnAway t st).taken q k := by
  rw [turnAway, taken_leaveEntry s ht hq, taken_releaseClaim _ ht, taken_respond _ ht]
  rfl

theorem turnAway_updSeg (s : State) (x : Seg) (f : Segment → Segment) (t : Tag) (st : Status) :
    (s.updSeg x f).turnAway t st = (s.turnAway t st).updSeg x f := by
  have hclaimed (b : State) : (b.updSeg x f).claimedRecord t = b.claimedRecord t := by simp [claimedRecord]
  have hrelease (b : State) : (b.updSeg x f).releaseClaim t = (b.releaseClaim t).updSeg x f := by
    unfold releaseClaim
    rw [hclaimed]
    split
    · rfl
    · exact dropClaim_updSeg b x f _
  rw [turnAway, leaveEntry_updSeg, hrelease]
  cases x <;> rfl

theorem taken_updSeg (s : State) (x : Seg) (f : Segment → Segment) (q : Request) (k : Fin 4) :
    (s.updSeg x f).taken q k = (s.taken q k).updSeg x f := by
  cases x <;> rfl

/-! ## A request reaches the agent in spite of a departure -/

/-- Which management buffers are free is read off the slots (R48). -/
theorem freeMgmtBuf_congr {u : State} (h : ∀ v, (u.slot v).mgmtBuf = (s.slot v).mgmtBuf) :
    u.freeMgmtBuf = s.freeMgmtBuf := by
  have hheld (j : Fin 4) : u.mgmtBufHeld j = s.mgmtBufHeld j := by
    rw [Bool.eq_iff_iff]
    simp only [mgmtBufHeld, List.any_eq_true, Vector.mem_toList_iff, Vector.mem_iff_getElem, decide_eq_true_eq]
    constructor
    · rintro ⟨_, ⟨i, hi, rfl⟩, hj⟩
      exact ⟨_, ⟨i, hi, rfl⟩, (h ⟨i, hi⟩).symm.trans hj⟩
    · rintro ⟨_, ⟨i, hi, rfl⟩, hj⟩
      exact ⟨_, ⟨i, hi, rfl⟩, (h ⟨i, hi⟩).trans hj⟩
  simp only [freeMgmtBuf, hheld]

/-- A slot that the departure neither moves nor answers keeps its state, and every slot its buffer. -/
theorem turnAway_slot (h : s.mayDepart t) (st : Status) (v : Tag) :
    ((s.turnAway t st).slot v).mgmtBuf = (s.slot v).mgmtBuf
      ∧ (v ≠ t → s.quiesced t ≠ some v → ((s.turnAway t st).slot v).state = (s.slot v).state) := by
  obtain ⟨hslot, _⟩ := s.leaveEntry_effect (o := none) rfl (quiesced_ne_of_mayDepart h)
  obtain ⟨b, hb, _⟩ := (s.leaveEntry t none).releaseClaim_eq_settleClaim_slot t v
  rw [turnAway, respond_slot, hb, hslot]
  by_cases hv : v = t
  · subst hv
    rw [if_pos rfl, if_pos rfl, s.detached_slot h.2.2]
    exact ⟨rfl, fun hne => absurd rfl hne⟩
  · rw [if_neg hv, if_neg hv]
    by_cases hq : s.quiesced t = some v
    · rw [if_pos hq]
      exact ⟨rfl, fun _ hne => absurd hq hne⟩
    · rw [if_neg hq]
      exact ⟨rfl, fun _ _ => rfl⟩

theorem turnAway_restart (h : s.mayDepart t) (st : Status) : (s.turnAway t st).mga.restart = s.mga.restart := by
  obtain ⟨_, _, hmga, _⟩ := s.leaveEntry_effect (o := none) rfl (quiesced_ne_of_mayDepart h)
  simp [turnAway, hmga]

/-- The quiesce that a departure ends is not the arriving request's: its slot is FREE. -/
theorem quiesced_ne_of_admits {v : Tag} (h : s.mayDepart t) (hv : s.admits v) : s.quiesced t ≠ some v := by
  intro hq
  have hwait := h.2.1 v hq
  rw [hv.2] at hwait
  cases hwait

theorem reachesAgent_turnAway {v : Tag} (hs : s.reachesAgent v k) (hne : t ≠ v) (h : s.mayDepart t) (st : Status) :
    (s.turnAway t st).reachesAgent v k := by
  obtain ⟨⟨hreset, hrx⟩, hadm, hk⟩ := hs
  obtain ⟨_, hstate⟩ := turnAway_slot h st v
  refine ⟨⟨by simpa using hreset, by simpa using hrx⟩, ⟨?_, ?_⟩, ?_⟩
  · rw [turnAway_restart h]
    exact hadm.1
  · rw [hstate hne.symm (quiesced_ne_of_admits h hadm)]
    exact hadm.2
  · rw [freeMgmtBuf_congr fun w => (turnAway_slot h st w).1]
    exact hk

theorem reachesAgent_updSeg {v : Tag} (hs : s.reachesAgent v k) (f : Segment → Segment) :
    (s.updSeg x f).reachesAgent v k := by
  cases x <;> exact hs

theorem mayDepart_updSeg (h : s.mayDepart t) (f : Segment → Segment) : (s.updSeg x f).mayDepart t := by
  cases x <;> exact h

/-! ## The first head of the queue (R95) -/

/-- The verdict of a disable on a queue is that on the rest of it, once its head has left. -/
theorem cmdSegmentDisable_head {l : List Tag} (hx : (s.seg x).segState = .enabled) (hq : (s.seg x).queue = t :: l)
    (ht : t ≠ q.tag) (hne : s.quiesced t ≠ some q.tag) (v : Tag) :
    cmdSegmentDisable (s.taken q k) v (segCode x)
      = cmdSegmentDisable (((s.updSeg x (fun g => { g with queue := l })).turnAway t .segmentDown).taken q k) v
          (segCode x) := by
  have hdowned : (s.taken q k).downed x
      = (((s.updSeg x (fun g => { g with queue := l })).turnAway t .segmentDown).taken q k).downed x := by
    have hl : (s.taken q k).downed x = State.answerDown (t :: l) ((s.taken q k).updSeg x
        (fun g => { g with probeTimer := none, probeDue := false, queue := [] })) := by
      simp [downed, hq]
    rw [hl, State.answerDown, turnAway_updSeg, taken_turnAway s ht hne, turnAway_updSeg, taken_updSeg, downed,
      updSeg_updSeg]
    simp
  rw [cmdSegmentDisable_of_enabled v (by simpa using hx), cmdSegmentDisable_of_enabled v (by simpa using hx), hdowned]
  simp

/-- A disable of an ENABLED segment is not refused. -/
theorem cmdSegmentDisable_ne_refused (hx : (s.seg x).segState = .enabled) (v : Tag) (st : Status) (rs : Reason) :
    cmdSegmentDisable s v (segCode x) ≠ .refused st rs := by
  rw [cmdSegmentDisable_of_enabled v hx]
  cases (s.seg x).carried <;> nofun

/-- What a verdict other than a refusal comes to does not depend on the state it was reached in. -/
theorem conclude_congr (s u : State) (q : Request) (o : MgmtObject) {v : Verdict}
    (h : ∀ st rs, v ≠ .refused st rs) : s.conclude q o v = u.conclude q o v := by
  cases v with
  | done w => rfl
  | waits w => rfl
  | refused st rs => exact absurd rfl (h st rs)

end State

open State

/-- A disable of an ENABLED segment whose queued slots hold neither an entry nor a claim: the segment is disabled, or
the command waits for its drain (R95). -/
theorem segmentDisable_effect {s : State} {h : WriteHead} {k : Fin 4} {x : Seg} (hs : s.reachesAgent h.tag k)
    (hp : h.position = 0) (hx : (s.seg x).segState = .enabled) (hq : h.tag ∉ (s.seg x).queue)
    (hfree : ∀ t ∈ (s.seg x).queue, (s.slot t).attached = false ∧ (s.slot t).fillClaim = false) :
    ∃ u, exec (.segmentDisable h (segCode x)) s = .next u.start ∧ s.Downed u x h.tag
      ∧ ((s.seg x).carried = .nothing →
          s.returns u ((s.seg x).queue ++ [h.tag]) ∧ u.mga = s.mga
          ∧ u.slot h.tag
              = (mgmtSlot (commandRequest h .segmentDisable [segCode x]) k).answered .done .none .none
          ∧ u.seg x = { s.seg x with segState := .disabled, queue := [], probeTimer := none, probeDue := false })
      ∧ ((s.seg x).carried ≠ .nothing →
          s.returns u (s.seg x).queue
          ∧ u.mga = { s.mga with
              pendingRecords := s.mga.pendingRecords ++ [{ tag := h.tag, command := .segmentDisable x }] }
          ∧ u.slot h.tag
              = { mgmtSlot (commandRequest h .segmentDisable [segCode x]) k with state := .waiting }
          ∧ (∀ t, (s.seg x).carried = .slot t → u.seg x = { s.seg x with
              segState := .draining, queue := [], probeTimer := none, probeDue := false, finalMark := true,
              waitingDisable := some h.tag })
          ∧ (∀ i, (s.seg x).carried = .probe i → u.seg x = { s.seg x with
              segState := .draining, queue := [], probeTimer := none, probeDue := false,
              waitingDisable := some h.tag })) := by
  obtain ⟨D, hself, hret, hmga, hseg⟩ := downed_effect (k := k)
    (q := commandRequest h .segmentDisable [segCode x]) hq hfree
  have hverdict := cmdSegmentDisable_of_enabled
    (s := s.readyRx.countFrame.occupyMgmt (commandRequest h .segmentDisable [segCode x]) k) (x := x) h.tag
    (by simpa using hx)
  have hcar : ((s.readyRx.countFrame.occupyMgmt (commandRequest h .segmentDisable [segCode x]) k).seg x).carried
      = (s.seg x).carried := by simp
  generalize (s.readyRx.countFrame.occupyMgmt (commandRequest h .segmentDisable [segCode x]) k).downed x = d
    at D hself hret hmga hseg hverdict
  rw [hcar] at hverdict
  have hwait (mark : Bool) : s.Downed (d.beginDrain x h.tag mark) x h.tag
      ∧ s.returns (d.beginDrain x h.tag mark) (s.seg x).queue
      ∧ (d.beginDrain x h.tag mark).mga = { s.mga with
          pendingRecords := s.mga.pendingRecords ++ [{ tag := h.tag, command := .segmentDisable x }] }
      ∧ (d.beginDrain x h.tag mark).slot h.tag
        = { mgmtSlot (commandRequest h .segmentDisable [segCode x]) k with state := .waiting }
      ∧ (d.beginDrain x h.tag mark).seg x = { s.seg x with
          segState := .draining, queue := [], probeTimer := none, probeDue := false
          finalMark := (s.seg x).finalMark || mark, waitingDisable := some h.tag } := by
    refine ⟨(D.updSeg _).beginWait _, ?_, ?_, ?_, ?_⟩
    · simpa [beginDrain, returns] using hret
    · simp [beginDrain, hmga]
    · simp [beginDrain, show d.slot h.tag = _ from hself]
    · simp [beginDrain, hseg]
  cases hc : (s.seg x).carried with
  | nothing =>
    rw [hc] at hverdict
    refine ⟨_, requestEvent_command_done hs hp rfl hverdict, (D.updSeg _).respond _ _ _,
      fun _ => ⟨?_, ?_, ?_, ?_⟩, fun hne => absurd rfl hne⟩
    · simp [returns, show d.rtp = _ from hret]
    · simpa using hmga
    · simp [show d.slot h.tag = _ from hself, Slot.answered]
    · simp [hseg]
  | slot t =>
    rw [hc] at hverdict
    obtain ⟨hD, hret, hmga, hself, hseg⟩ := hwait true
    exact ⟨_, requestEvent_command_waits hs hp rfl hverdict, hD, (nomatch ·),
      fun _ => ⟨hret, hmga, hself, fun _ _ => by simpa using hseg, fun _ hi => nomatch hi⟩⟩
  | probe i =>
    rw [hc] at hverdict
    obtain ⟨hD, hret, hmga, hself, hseg⟩ := hwait false
    exact ⟨_, requestEvent_command_waits hs hp rfl hverdict, hD, (nomatch ·),
      fun _ => ⟨hret, hmga, hself, fun _ ht => (nomatch ht), fun _ _ => by simpa using hseg⟩⟩

/-- Settles O11, by the segment's state; the queue of an ENABLED one is answered at once or head by head. -/
theorem segmentDisableDisablesOrDrains : Obligations.SegmentDisableDisablesOrDrains := by
  unfold Obligations.SegmentDisableDisablesOrDrains
  refine fun s h k x hs hp => ⟨fun hx => ?_, fun hx => ?_, fun hx hq _ hfree => ?_, fun t l hx hq hne hdep => ?_⟩
  · exact command_unchanged (c := .segmentDisable) hs hp rfl (cmdSegmentDisable_of_disabled h.tag (by simpa using hx))
  · exact command_refused (c := .segmentDisable) hs hp rfl (cmdSegmentDisable_of_draining h.tag (by simpa using hx))
  · obtain ⟨u, hexec, D, hrest⟩ := segmentDisable_effect hs hp hx hq hfree
    exact ⟨u, hexec, D.received, D.buffers, D.entries, D.rst, D.others, D.stations, D.ntu, D.slots, hrest⟩
  · have hs' := reachesAgent_turnAway (reachesAgent_updSeg (x := x) hs (fun g => { g with queue := l })) hne
      (mayDepart_updSeg hdep _) .segmentDown
    have hverdict := cmdSegmentDisable_head (q := commandRequest h .segmentDisable [segCode x]) (k := k) hx hq hne
      (quiesced_ne_of_admits hdep hs.2.1) h.tag
    have hrefused := cmdSegmentDisable_ne_refused (s := s.taken (commandRequest h .segmentDisable [segCode x]) k)
      (x := x) (by simpa using hx) h.tag
    refine (requestEvent_command (c := .segmentDisable) (p := [segCode x]) hs hp rfl).trans
      (.trans ?_ (requestEvent_command (c := .segmentDisable) (p := [segCode x]) hs' hp rfl).symm)
    refine congrArg (fun u => Host.Outcome.next (State.start u)) ?_
    exact (conclude_congr _ _ _ _ hrefused).trans (congrArg _ hverdict)

end Sys2Proof.Machine

/-! # PROOFS. Events out of place (O49). -/

namespace Sys2Proof.Machine
namespace State

variable {s : State} {x : Seg}

/-! ## The upstream receiver with no frame in progress (R167) -/

theorem upstreamFrameEnd_of_ready (h : s.upRx.state = .ready) : s.upstreamFrameEnd = s := by
  simp only [upstreamFrameEnd, h]

theorem upstreamFrameEnd_of_waitIdle (h : s.upRx.state = .waitIdle) : s.upstreamFrameEnd = s.readyRx := by
  simp only [upstreamFrameEnd, h]

theorem receiveRequest_of_waitIdle (q : Request) (h : s.upRx.state = .waitIdle) : s.receiveRequest q = s.readyRx := by
  simp only [receiveRequest, h]

/-! ## Events of an engine or a transmitter that is in another state (R78, R114) -/

theorem gapEnd_of_noGap (h : (s.seg x).engine ≠ .gap) : s.gapEnd x = s := by
  cases he : (s.seg x).engine with
  | gap => exact absurd he h
  | idle => simp only [gapEnd, he]
  | sending => simp only [gapEnd, he]
  | awaiting => simp only [gapEnd, he]

/-- A frame end that is not that of the frame in transmission leaves the transmitter as it is. -/
theorem responseFrameEnd_of_other (h : s.rtp.txState ≠ .transmitting ∨ ∀ t, s.rtp.carries ≠ .slot t) :
    s.responseFrameEnd = s := by
  unfold responseFrameEnd
  split
  · next htx hc => exact (h.elim (· htx) (· _ hc)).elim
  · rfl

theorem clashFrameEnd_of_other (h : s.rtp.txState ≠ .transmitting ∨ s.rtp.carries ≠ .clash) :
    s.clashFrameEnd = s := by
  unfold clashFrameEnd
  split
  · next htx hc => exact (h.elim (· htx) (· hc)).elim
  · rfl

theorem noticeFrameEnd_of_other (h : s.rtp.txState ≠ .transmitting ∨ s.rtp.carries ≠ .notice) :
    s.noticeFrameEnd = s := by
  unfold noticeFrameEnd
  split
  · next htx hc => exact (h.elim (· htx) (· hc)).elim
  · rfl

theorem spacingEnd_of_other (h : s.rtp.txState ≠ .spacing) : s.spacingEnd = s := by
  rw [spacingEnd, if_neg h]

theorem repeatTimerExpiry_of_stopped (h : s.ntu.repeatTimer = none) : s.repeatTimerExpiry = s := by
  simp [repeatTimerExpiry, h]

end State

open State

/-- Settles O49, event by event. -/
theorem eventsOutOfPlaceChangeNothing : Obligations.EventsOutOfPlaceChangeNothing := by
  unfold Obligations.EventsOutOfPlaceChangeNothing
  intro s hr
  have hquiet {f : State → State} (hf : f s = s) : quietEvent f s = .next s :=
    (quietEvent_of_released hr).trans (congrArg Host.Outcome.next hf)
  refine ⟨fun x h => ?_, fun x h => ?_, fun x h => ?_, fun x h => ?_, fun x h => ?_, fun x h => ?_, fun h => ?_,
    fun x h => ?_, ?_, fun h => hquiet (responseFrameEnd_of_other h), fun h => hquiet (clashFrameEnd_of_other h),
    fun h => hquiet (noticeFrameEnd_of_other h), fun h => hquiet (spacingEnd_of_other h),
    fun h => hquiet (repeatTimerExpiry_of_stopped h)⟩
  · rw [exec_dispatch x hr, dispatch_eq_self]
    rcases h with hbusy | hoff | ⟨hdue, hq⟩
    exacts [mayDispatch_of_busy hbusy, mayDispatch_of_off hoff, mayDispatch_of_rest hdue hq]
  · rw [exec_segmentFrameTxEnd x hr, segmentFrameTxEnd_of_notSending h]
  · rw [exec_segmentFrameRxEnd_released x hr, segmentFrameRxEnd_of_ready h]
  · rw [exec_responseTimerExpiry x hr, responseTimerExpiry_of_stopped h]
  · rw [exec_gapEnd x hr, gapEnd_of_noGap h]
  · rw [exec_probeTimerExpiry x hr, probeTimerExpiry_of_stopped h]
  · exact (event_of_released hr).trans (by rw [upstreamFrameEnd_of_ready h])
  · rw [exec_segmentFrameRxEnd_released x hr, segmentFrameRxEnd_of_waitIdle h]
    rfl
  · rintro h u rfl
    refine ⟨(event_of_released hr).trans (by rw [upstreamFrameEnd_of_waitIdle h]; rfl), fun i q hq => ?_⟩
    rw [exec_of_requestOfRow hq]
    exact (event_of_released hr).trans (by rw [receiveRequest_of_waitIdle q h]; rfl)

end Sys2Proof.Machine

/-! # PROOFS. Station record writes, STATION_FORGET and answered probes (O4, O36). -/

namespace Sys2Proof.Machine

/-! ## A management request that changes one station record (R103, R110) -/

theorem homeOf_homeCode (home : Option Seg) : homeOf (homeCode home) = some home := by
  rcases home with _ | _ | _ <;> rfl

theorem writeStation_done (s : State) (i : StationNo) (home : Option Seg) :
    writeStation s i [homeCode home]
      = .done (s.updStation i (fun _ => { home := home, presence := .unknown, failures := 0 })) := by
  rw [writeStation, show byteAt [homeCode home] 0 = homeCode home from rfl, homeOf_homeCode]

theorem cmdStationForget_done (s : State) (i : StationNo) :
    cmdStationForget s (byteOf (stationOf i))
      = .done (s.updStation i (fun rc => { rc with presence := .unknown, failures := 0 })) := by
  rw [cmdStationForget, stationArg_byteOf]

/-- A station record write by its row: one record is replaced, and the write answered. -/
theorem stationRecordWrite_done {s : State} {h : WriteHead} {k : Fin 4} (hs : s.reachesAgent h.tag k)
    (hp : h.position = 0) (i : StationNo) {w : WriteKind} (home : Option Seg) (hg : goodLength w h) :
    ∃ u, exec (.stationRecordWrite h w i [homeCode home]) s = .next u.start
      ∧ s.writeDone u (writeRequest h w (stationObject i) [homeCode home]) k (stationBytes (u.station i))
      ∧ u.station i = { home := home, presence := .unknown, failures := 0 }
      ∧ s.otherStations u i ∧ s.sameButStations u := by
  have hverdict := mgmtWrite_of_checks
    (s := s.readyRx.countFrame.occupyMgmt (writeRequest h w (stationObject i) [homeCode home]) k)
    (q := writeRequest h w (stationObject i) [homeCode home]) (o := .station i) rfl (fun _ => rfl) (.inl hp)
    (fun n hn => by cases hn; rfl)
  have hexec := requestEvent_write_value (p := [homeCode home]) hs hg (by simp) (objectOf_station i)
    (hverdict.trans (writeStation_done _ i home)) rfl
  have htaken := s.occupyMgmt_takenForStore (writeRequest h w (stationObject i) [homeCode home]) k
  have hanswered (value : List Byte) := writeAnswered_capture (value := value)
    (u := (s.readyRx.countFrame.occupyMgmt (writeRequest h w (stationObject i) [homeCode home]) k).updStation i
      (fun _ => { home := home, presence := .unknown, failures := 0 })) htaken.received htaken.own htaken.buffers
  refine ⟨_, hexec, ⟨?_, fun v hv => ?_, ?_⟩, ?_, fun n hn => ?_, ?_⟩
  · rw [State.capture_station]
    exact hanswered _
  · rw [State.capture_otherSlot _ hv]
    exact s.otherSlots_occupyMgmt _ k v hv
  · rw [State.returns, State.capture_rtp]
    rfl
  · simp
  · simp [hn]
  · simp [State.sameButStations]

/-- A command that changes one station record is answered DONE and changes nothing else. -/
theorem stationCommand_done {s : State} {h : WriteHead} {c : CommandObject} {p : List Byte} {k : Fin 4} {i : StationNo}
    {f : StationRecord → StationRecord} (hs : s.reachesAgent h.tag k) (hp : h.position = 0)
    (hl : p.length = c.argSize)
    (hu : runCommand (s.readyRx.countFrame.occupyMgmt (commandRequest h c p) k) h.tag p c
      = .done ((s.readyRx.countFrame.occupyMgmt (commandRequest h c p) k).updStation i f)) :
    ∃ u, requestEvent (commandRequest h c p) s = .next u.start
      ∧ s.agentDone u (commandRequest h c p) k
      ∧ u.station i = f (s.station i) ∧ s.otherStations u i ∧ s.sameButStations u := by
  obtain ⟨hrec, hself, hbuf, hret, _⟩ := (s.occupyMgmt_takenForStore (commandRequest h c p) k).respond
  refine ⟨_, requestEvent_command_done hs hp hl hu, ⟨hrec, hself, fun v hv => ?_, hbuf, hret⟩, ?_, fun n hn => ?_,
    ?_⟩
  · rw [State.respond_slot, if_neg (show v ≠ h.tag from hv)]
    exact s.otherSlots_occupyMgmt _ k v hv
  · simp
  · simp [hn]
  · simp [State.sameButStations]

/-- Settles O4: the write and the command each change one record, and are answered. -/
theorem stationWriteAndForgetResetBelief : Obligations.StationWriteAndForgetResetBelief := by
  unfold Obligations.StationWriteAndForgetResetBelief
  intro s h k i hs hp
  exact ⟨fun w home hg => stationRecordWrite_done hs hp i home hg,
    stationCommand_done (c := .stationForget) (p := [byteOf (stationOf i)]) hs hp rfl (cmdStationForget_done _ i)⟩

/-! ## An answered probe (R83, R93, R107) -/

/-- The three statuses that a station answers with (R82). -/
theorem stationStatus_of_le {b : Byte} (h : b.toNat ≤ 2) : b = 0 ∨ b = 1 ∨ b = 2 := by
  simp only [BitVec.toNat_eq]
  change b.toNat = 0 ∨ b.toNat = 1 ∨ b.toNat = 2
  omega

namespace State

theorem probeSuccess_updSeg (s : State) (x : Seg) (f : Segment → Segment) (i : StationNo) :
    (s.updSeg x f).probeSuccess x i = (s.probeSuccess x i).updSeg x f := by
  cases x <;> rfl

/-- An accepted response ends a probe: its station is found, and the engine enters GAP with nothing. -/
theorem acceptResponse_probe {s : State} {x : Seg} {i : StationNo} (h : (s.seg x).carried = .probe i) (r : Response) :
    s.acceptResponse x r = (s.updSeg x (fun g => g.enterGap .nothing none)).probeSuccess x i := by
  simp only [acceptResponse, h, probeSuccess_updSeg]

/-- An accepted response of a carried probe is judged a probe success, whatever its status. -/
theorem judgeSegmentFrame_probe {s : State} {x : Seg} {i : StationNo} {r : Response}
    (hon : (s.seg x).segState ≠ .disabled) (hawait : (s.seg x).engine = .awaiting)
    (hc : (s.seg x).carried = .probe i) (hst : r.station = byteOf (stationOf i)) (htag : r.tag = 0)
    (hstatus : r.status = 0 ∨ r.status = 1 ∨ r.status = 2) :
    s.judgeSegmentFrame x (some r) = (s.updSeg x (fun g => g.enterGap .nothing none)).probeSuccess x i := by
  rw [judgeSegmentFrame_response r hon hawait, hc, if_pos (matchesWork_probe hst htag), if_pos hstatus,
    acceptResponse_probe hc]

end State

theorem nodeFound_eq (x : Seg) : nodeFound x = if x = .a then 2 else 3 := by cases x <;> rfl

/-- Settles O36: the response matches the probe, and is judged a probe success. -/
theorem answeredProbeFindsStation : Obligations.AnsweredProbeFindsStation := by
  unfold Obligations.AnsweredProbeFindsStation
  intro s x i r hr hrx hlost hon hawait hc hframe hst htag hstatus
  rw [State.exec_segmentFrameRxEnd hr hrx hlost, hframe, State.judgeSegmentFrame_probe (by simpa using hon)
    (by simpa using hawait) (by simpa using hc) hst htag (stationStatus_of_le hstatus), State.updSeg_updSeg,
    ← nodeFound_eq]
  rfl

end Sys2Proof.Machine

/-! # PROOFS. The outcome of a transaction whose last attempt failed (O38). -/

namespace Sys2Proof.Machine

/-! ## The record of a failed request (R105, R106) -/

theorem raisedFailures_eq {c n : Fin 16} (h : n.val = min 15 (c.val + 1)) : raisedFailures c = n := by
  apply Fin.ext
  rw [raisedFailures]
  split
  · rw [h]; dsimp only; omega
  · omega

theorem StationRecord.fail_eq (rc : StationRecord) (threshold : Fin 16) :
    rc.fail threshold = { rc with
      failures := raisedFailures rc.failures
      presence := if rc.presence = .absent ∨ threshold ≤ raisedFailures rc.failures then .absent else .suspect } := by
  by_cases ha : rc.presence = .absent
  · simp [fail, ha]
  · by_cases ht : threshold ≤ raisedFailures rc.failures
    · simp [fail, ha, ht]
    · simp [fail, ha, ht]

theorem StationRecord.lostBy_iff (rc : StationRecord) (threshold : Fin 16) :
    rc.lostBy threshold = true ↔ rc.presence ≠ .absent ∧ threshold ≤ raisedFailures rc.failures := by
  simp [lostBy]

namespace State

variable {s : State} {x : Seg} {t : Tag} {st : Status}

theorem requestFailure_stationOf (s : State) (x : Seg) (i n : StationNo) :
    (s.requestFailure x (stationOf i)).station n
      = if n = i then (s.station n).fail s.mga.absenceThreshold else s.station n := by
  simp only [requestFailure, stationRecordOf_stationOf]
  split <;> simp

theorem requestFailure_ntu (s : State) (x : Seg) (i : StationNo) :
    (s.requestFailure x (stationOf i)).ntu = if (s.station i).lostBy s.mga.absenceThreshold then
        s.ntu.raise (nodeLost ((s.station i).home.getD x)) (stationDetail (stationOf i))
      else s.ntu := by
  simp only [requestFailure, stationRecordOf_stationOf]
  split <;> rfl

/-! ## A failure asks for no HOLD and no fill (R14, R72) -/

theorem leaveEntry_of_noHold (s : State) (t : Tag) (h : ∀ en : Entry, en.asksHold st = false) :
    s.leaveEntry t (some st) = s.leaveEntry t none := by
  have hdetached (e : EntryNo) : s.detached t e (some st) = s.detached t e none := by
    simp [detached, Entry.depart, Entry.newlyHeld, h]
  cases he : (s.slot t).attachedEntry with
  | none => rw [leaveEntry_of_unattached he, leaveEntry_of_unattached he]
  | some e => rw [leaveEntry_of_attached he, leaveEntry_of_attached he, hdetached]

theorem settleClaim_of_not_done (s : State) (t : Tag) (h : st ≠ .done) : s.settleClaim t st = s.releaseClaim t := by
  unfold settleClaim releaseClaim
  cases s.claimedRecord t with
  | none => rfl
  | some r => simp [fills, h]

theorem failure_not_done (f : AttemptFailure) : f.status ≠ .done := by cases f <;> decide

/-- The rest of a failure's outcome is that of a slot turned away. -/
theorem handOn_of_failure (s : State) (t : Tag) (f : AttemptFailure) :
    s.handOn t (f.status, .none, .none) = s.turnAway t f.status := by
  have hdone := failure_not_done f
  have hshort : f.status ≠ .short := by cases f <;> decide
  rw [handOn, turnAway, leaveEntry_of_noHold s t (by simp [Entry.asksHold, hdone, hshort]),
    settleClaim_of_not_done _ t hdone]

/-- An outcome that is not DONE fills no record: a record that loses its claim is all that changes (R72). -/
theorem settles_of_not_done {u : State} {c : Option RecordNo} (h : st ≠ .done)
    (hrecord : ∀ r, u.record r = if c = some r then { s.record r with claim := none } else s.record r)
    (hstore : u.rst.store = s.rst.store) (hcounters : u.counters = s.counters) : s.settles u t c st := by
  have hfilled : s.filledRecord t c st = none := by simp [filledRecord, h]
  exact ⟨fun r => by simp [hrecord, hfilled], fun r hr => by simp [hfilled] at hr,
    fun r hr => by simp [hfilled] at hr, fun _ => ⟨hstore, hcounters⟩⟩

/-! ## The end of the gap after the last attempt (R86 to R88) -/

/-- SEG_FAIL is raised and the failure reported for the slot's station; the engine carries the slot no more. -/
def failed (s : State) (x : Seg) (t : Tag) : State :=
  ((s.raise (nodeSegFail x) (stationDetail (s.slot t).station)).requestFailure x (s.slot t).station).updSeg x
    (fun g => { g with carried := .nothing })

theorem failed_station {i : StationNo} (hi : stationOf i = (s.slot t).station) (n : StationNo) :
    (s.failed x t).station n = if n = i then (s.station n).fail s.mga.absenceThreshold else s.station n := by
  simp [failed, ← hi, requestFailure_stationOf]

theorem failed_ntu {i : StationNo} (hi : stationOf i = (s.slot t).station) :
    (s.failed x t).ntu = if (s.station i).lostBy s.mga.absenceThreshold then
        (s.ntu.raise (nodeSegFail x) (stationDetail (stationOf i))).raise
          (nodeLost ((s.station i).home.getD x)) (stationDetail (stationOf i))
      else s.ntu.raise (nodeSegFail x) (stationDetail (stationOf i)) := by
  rw [failed, updSeg_ntu, ← hi, requestFailure_ntu]
  rfl

/-- Beside the stations and the segments, a failure report changes the notice unit only. -/
theorem sameOutcome_failed : (s.updNotices (fun _ => (s.failed x t).ntu)).SameOutcome (s.failed x t) where
  slot     := funext fun v => by simp [failed]
  entries  := by simp [failed]
  rst      := by simp [failed]
  rtp      := by simp [failed]
  ntu      := rfl
  mga      := by simp [failed]
  counters := by simp [failed]

/-- After the failure report the slot leaves the segment side as one that is turned away does, and its claim is cleared
without a fill. -/
theorem failed_turnAway_effect {c : Option RecordNo} (hst : st ≠ .done) (hdep : s.mayDepart t) (hc : s.claims t c) :
    s.departs ((s.failed x t).turnAway t st) t (fun _ => false) st .none .none
      ∧ s.settles ((s.failed x t).turnAway t st) t c st
      ∧ ((s.failed x t).turnAway t st).ntu = (s.failed x t).ntu := by
  have E := sameOutcome_failed (s := s) (x := x) (t := t)
  obtain ⟨hdeparts, hrecord, hstore, hntu⟩ := turnAway_effect st (E.mayDepart hdep) (E.claims hc)
  exact ⟨E.departs hdeparts, E.settles (settles_of_not_done hst hrecord hstore (turnAway_counters _ _ _)), hntu⟩

/-- What an engine carries is forgotten when it comes to rest. -/
theorem engineRests_updSeg {f : Segment → Segment} (s : State) (h : ∀ g, (f g).rest = g.rest) :
    (s.updSeg x f).engineRests x = s.engineRests x := by
  simp only [engineRests, updSeg_updSeg, h]

/-- A slot that is not sent again takes its outcome, and the gap ends as one that carries nothing. -/
theorem gapEnd_of_failure {f : AttemptFailure} (hgap : (s.seg x).engine = .gap) (ht : (s.seg x).carried = .slot t)
    (hlast : (s.seg x).retryLimit.val < (s.slot t).attempts ∨ (s.seg x).finalMark = true)
    (hf : (s.seg x).failure = some f) : s.gapEnd x = ((s.failed x t).turnAway t f.status).gapEnd x := by
  have hretries : s.retries x t = false := by
    rcases hlast with h | h <;> simp [retries, h]
  calc
    s.gapEnd x = (s.failOutcome x t f).engineRests x := by
      simp only [gapEnd, hgap, ht, hretries, hf, Bool.false_eq_true, if_false, Option.getD_some]
    _ = ((s.failed x t).turnAway t f.status).engineRests x := by
      rw [failOutcome, handOn_of_failure, failed, turnAway_updSeg, engineRests_updSeg]
      exact fun _ => rfl
    _ = ((s.failed x t).turnAway t f.status).gapEnd x :=
      (gapEnd_of_nothing (by simpa [failed] using hgap) (by simp [failed])).symm

end State

open State

/-- Settles O38: the failure is reported, its slot leaves the segment side, and the engine goes on with nothing. -/
theorem lastFailureTakesOutcome : Obligations.LastFailureTakesOutcome := by
  unfold Obligations.LastFailureTakesOutcome
  intro s x t i n f st c hr hgap ht hlast hf hst hi hn hdep hc
  have hraised : raisedFailures (s.station i).failures = n := raisedFailures_eq hn
  have hstatus : st = f.status := by rcases hst with ⟨rfl, rfl⟩ | ⟨rfl, rfl⟩ <;> rfl
  subst hstatus
  obtain ⟨hdeparts, hsettles, hntu⟩ := failed_turnAway_effect (x := x) (failure_not_done f) hdep hc
  refine ⟨(s.failed x t).turnAway t f.status, ?_, hdeparts, hsettles, ?_, fun m hm => ?_, ?_, ?_, fun y hy => ?_, ?_,
    ?_⟩
  · rw [exec_gapEnd x hr, exec_gapEnd x (by simpa [failed] using hr), gapEnd_of_failure hgap ht hlast hf]
  · simp [failed_station hi, StationRecord.fail_eq, hraised]
  · simp [failed_station hi, hm]
  · rw [hntu, failed_ntu hi]
    simp only [StationRecord.lostBy_iff, hraised]
    rfl
  · simp [failed]
  · simp [failed, hy]
  · simp [sameBuffers, failed]
  · simp [sameLink, failed]

end Sys2Proof.Machine

/-! # PROOFS. The starts and the ends of upstream frames (O41, O42, O43). -/

namespace Sys2Proof.Machine

/-! ## The offer at the end of a notice frame (R121, R135) -/

namespace NoticeUnit

variable {n : NoticeUnit} {l : NoticeLatch}

theorem lowerCount_eq {a b c : Byte} (h : c.toNat = min a.toNat b.toNat) : lowerCount a b = c := by
  unfold lowerCount
  split <;> exact BitVec.eq_of_toNat_eq (by omega)

/-- The latched node is still offered. -/
theorem frameEnded_of_offered {o : Offer} {c : Byte} (ho : n.offer = some o) (hl : o.node = l.node)
    (hc : c.toNat = min l.count.toNat (n.node o.node).count.toNat) :
    n.frameEnded l = { n.updNode o.node (fun nd => { nd with sent := c }) with
      offer := some { node := o.node, state := .sent }, repeatTimer := some n.repeatInterval } := by
  have hsent : lowerCount l.count (n.node o.node).count = c := lowerCount_eq hc
  rw [frameEnded, ho]
  simp only [← hl, ← hsent]
  rfl

/-- Another node is offered by now, or none. -/
theorem frameEnded_of_withdrawn (h : ∀ o, n.offer = some o → o.node ≠ l.node) : n.frameEnded l = n := by
  unfold frameEnded
  split
  · rfl
  · next o ho => rw [if_neg (h o ho)]

theorem dueNode_of_due {o : Offer} (hdue : n.due = true) (ho : n.offer = some o) : n.dueNode = some o.node := by
  simp [dueNode, hdue, ho]

theorem dueNode_of_notDue (hdue : n.due = false) : n.dueNode = none := by
  simp [dueNode, hdue]

end NoticeUnit

namespace State

variable {s : State} {t : Tag}

/-! ## The upstream transmitter's events, with RESET# released (R114 to R121, R135, R165) -/

section Events

variable (h : s.resetAsserted = false)
include h

theorem exec_startOfTransmission : exec .startOfTransmission s = .next s.start :=
  quietEvent_of_released (f := State.start) h

theorem exec_responseFrameEnd : exec .responseFrameEnd s = .next s.responseFrameEnd :=
  quietEvent_of_released (f := State.responseFrameEnd) h

theorem exec_clashFrameEnd : exec .clashFrameEnd s = .next s.clashFrameEnd :=
  quietEvent_of_released (f := State.clashFrameEnd) h

theorem exec_noticeFrameEnd : exec .noticeFrameEnd s = .next s.noticeFrameEnd :=
  quietEvent_of_released (f := State.noticeFrameEnd) h

theorem exec_spacingEnd : exec .spacingEnd s = .next s.spacingEnd :=
  quietEvent_of_released (f := State.spacingEnd) h

theorem exec_repeatTimerExpiry : exec .repeatTimerExpiry s = .next s.repeatTimerExpiry :=
  quietEvent_of_released (f := State.repeatTimerExpiry) h

end Events

/-! ## The ends of frames (R31, R114, R120, R121, R135) -/

theorem noticeFrameEnd_of_notice (htx : s.rtp.txState = .transmitting) (hc : s.rtp.carries = .notice) :
    s.noticeFrameEnd = { s with
      ntu := s.ntu.frameEnded s.rtp.latch
      counters := { s.counters with txNotices := satInc s.counters.txNotices }
      rtp := s.rtp.space } := by
  simp only [noticeFrameEnd, htx, hc]
  rfl

theorem clashFrameEnd_of_clash (htx : s.rtp.txState = .transmitting) (hc : s.rtp.carries = .clash) :
    s.clashFrameEnd = s.popClash.countResponse.updReturn ReturnPath.space := by
  simp only [clashFrameEnd, htx, hc]

/-- No restart is pending on the slot whose frame ends, so none is performed (R122). -/
theorem responseFrameEnd_of_noRestart (htx : s.rtp.txState = .transmitting) (hc : s.rtp.carries = .slot t)
    (hrestart : ∀ r, s.mga.restart = some r → r.tag ≠ t) :
    s.responseFrameEnd = ((s.freeSlot t).countResponse).updReturn ReturnPath.space := by
  simp only [responseFrameEnd, htx, hc]
  unfold performRestart
  split
  · rfl
  · next r hr => rw [if_neg (hrestart r (by simpa using hr))]

theorem spacingEnd_of_spacing (h : s.rtp.txState = .spacing) :
    s.spacingEnd = State.start { s with rtp := { s.rtp with txState := .idle } } := by
  rw [spacingEnd, if_pos h]
  rfl

theorem repeatTimerExpiry_of_running (h : s.ntu.repeatTimer.isSome = true) :
    s.repeatTimerExpiry = State.start { s with ntu := { s.ntu with due := true, repeatTimer := none } } := by
  rw [repeatTimerExpiry, if_pos h]
  rfl

/-! ## A slot and its pin (R31, R58) -/

/-- The release of a pin changes the records' descriptors and nothing else. -/
theorem unpin_eq (s : State) (t : Tag) :
    s.unpin t = { s with rst := { s.rst with records := (s.unpin t).rst.records } } := by
  unfold unpin
  split <;> rfl

theorem unpin_record (s : State) (t : Tag) (r : RecordNo) :
    (s.unpin t).record r = if (s.slot t).reads r = true then
      { s.record r with pins := (s.record r).pins - 1 } else s.record r := by
  unfold unpin
  split
  · next n _ _ hsrc => simp [Slot.reads, hsrc, eq_comm]
  all_goals next hsrc => simp [Slot.reads, hsrc]

theorem freeSlot_record (s : State) (t : Tag) (r : RecordNo) :
    (s.freeSlot t).record r = if (s.slot t).reads r = true then
      { s.record r with pins := (s.record r).pins - 1 } else s.record r :=
  unpin_record s t r

/-- What is freed is the slot and its pin, and nothing else changes. -/
theorem freeSlot_eq (s : State) (t : Tag) :
    s.freeSlot t = { s with
      ort := { s.ort with slots := (s.freeSlot t).ort.slots }
      rst := { s.rst with records := (s.freeSlot t).rst.records } } := by
  rw [freeSlot, unpin_eq]
  rfl

theorem freeSlot_slot (s : State) (t v : Tag) : (s.freeSlot t).slot v = if v = t then {} else s.slot v := by
  simp [freeSlot]

/-! ## The arbiter's choice (R115) -/

theorem start_of_idle (h : s.rtp.txState = .idle) : s.start = s.arbiter := if_pos h

theorem start_of_busy (h : s.rtp.txState ≠ .idle) : s.start = s := if_neg h

theorem arbiter_of_due {k : NodeNo} (h : s.ntu.dueNode = some k) : s.arbiter = s.startNotice k := by
  simp only [arbiter, h]

theorem arbiter_of_clash {c : ClashEntry} {q : List ClashEntry} (hdue : s.ntu.dueNode = none)
    (hq : s.ort.clashQueue = c :: q) : s.arbiter = s.updReturn (fun p => p.begin .clash (clashFrame c)) := by
  simp only [arbiter, hdue, hq]

theorem arbiter_of_response {q : List Tag} (hdue : s.ntu.dueNode = none) (hclash : s.ort.clashQueue = [])
    (hq : s.rtp.queue = t :: q) : s.arbiter = s.startResponse t q := by
  simp only [arbiter, hdue, hclash, hq]

theorem arbiter_of_nothing (hdue : s.ntu.dueNode = none) (hclash : s.ort.clashQueue = [])
    (hq : s.rtp.queue = []) : s.arbiter = s := by
  simp only [arbiter, hdue, hclash, hq]

/-! ## The payload of a response (R117) -/

theorem responsePayload_of_none (h : (s.slot t).source = some .none) : s.responsePayload t = [] := by
  simp only [responsePayload, h]

theorem responsePayload_of_buffer {k : Fin 24} {n : Nat} (h : (s.slot t).source = some (.buffer n))
    (hk : (s.slot t).frameBuf = some k) : s.responsePayload t = s.ort.frameBuffers[k].take n := by
  simp only [responsePayload, slotBuffer, h, hk]

theorem responsePayload_of_record {r : RecordNo} {o n : Nat} (h : (s.slot t).source = some (.record r o n)) :
    s.responsePayload t = Memory.readRun s.rst.store o n := by
  simp only [responsePayload, h]

theorem responsePayload_of_management {k : Fin 4} {n : Nat} (h : (s.slot t).source = some (.management n))
    (hk : (s.slot t).mgmtBuf = some k) : s.responsePayload t = s.ort.mgmtBuffers[k].take n := by
  simp only [responsePayload, h, hk]

theorem slotResponse_eq {st : Status} {rs : Reason} (hst : (s.slot t).status = some st)
    (hrs : (s.slot t).reason = some rs) :
    s.slotResponse t = responseFrame (s.slot t).station t st.code rs.code (s.responsePayload t) := by
  simp only [slotResponse, hst, hrs, Option.map_some, Option.getD_some]

end State

open State

/-- Settles O41: what the notice unit makes of the frame's end is all that differs between the two cases. -/
theorem noticeFrameEndMarksTheOfferSent : Obligations.NoticeFrameEndMarksTheOfferSent := by
  unfold Obligations.NoticeFrameEndMarksTheOfferSent
  intro s hr
  refine ⟨fun htx hc => ⟨fun o c ho hl hcount => ?_, fun hother => ?_⟩, fun hrun => ?_⟩
  · rw [exec_noticeFrameEnd hr, noticeFrameEnd_of_notice htx hc, NoticeUnit.frameEnded_of_offered ho hl hcount]
    rfl
  · rw [exec_noticeFrameEnd hr, noticeFrameEnd_of_notice htx hc, NoticeUnit.frameEnded_of_withdrawn hother]
    rfl
  · rw [exec_repeatTimerExpiry hr, repeatTimerExpiry_of_running hrun]

/-- Settles O42, source by source in the arbiter's order. -/
theorem startTakesTheFirstSource : Obligations.StartTakesTheFirstSource := by
  unfold Obligations.StartTakesTheFirstSource
  intro s hr
  refine ⟨exec_startOfTransmission hr, start_of_busy, fun hidle => ?_⟩
  rw [start_of_idle hidle]
  refine ⟨fun o l hdue ho hl => ?_, fun c q hdue hq => ?_, fun t q st rs payload hdue hclash hq hst hrs hsrc => ?_,
    fun hdue => arbiter_of_nothing (NoticeUnit.dueNode_of_notDue hdue)⟩
  · subst hl
    rw [arbiter_of_due (NoticeUnit.dueNode_of_due hdue ho)]
    rfl
  · rw [arbiter_of_clash (NoticeUnit.dueNode_of_notDue hdue) hq]
    rfl
  · have hpayload : s.responsePayload t = payload := by
      rcases hsrc with ⟨hnone, rfl⟩ | ⟨k, n, hbuf, hk, rfl⟩ | ⟨r, o, n, hrec, rfl⟩ | ⟨k, n, hmgmt, hk, rfl⟩
      exacts [responsePayload_of_none hnone, responsePayload_of_buffer hbuf hk, responsePayload_of_record hrec,
        responsePayload_of_management hmgmt hk]
    rw [arbiter_of_response (NoticeUnit.dueNode_of_notDue hdue) hclash hq, startResponse, slotResponse_eq hst hrs,
      hpayload]
    rfl

/-- Settles O43: a frame's end is the release of what it held, its count, and the spacing. -/
theorem responseFrameEndsFreeWhatTheyHeld : Obligations.ResponseFrameEndsFreeWhatTheyHeld := by
  unfold Obligations.ResponseFrameEndsFreeWhatTheyHeld
  intro s hr
  refine ⟨fun t htx hc hrestart => ?_, fun htx hc => ?_, fun hsp => ?_⟩
  · refine ⟨((s.freeSlot t).countResponse).updReturn ReturnPath.space, ?_, ?_, ?_, fun v hv => ?_, fun r => ?_⟩
    · rw [exec_responseFrameEnd hr, responseFrameEnd_of_noRestart htx hc hrestart]
    · rw [freeSlot_eq]
      rfl
    · simp [freeSlot_slot]
    · simp [freeSlot_slot, hv]
    · simp [freeSlot_record]
  · rw [exec_clashFrameEnd hr, clashFrameEnd_of_clash htx hc]
    rfl
  · rw [exec_spacingEnd hr, spacingEnd_of_spacing hsp]

end Sys2Proof.Machine

/-! # PROOFS. The notice unit: nodes, eligibility, the winner and the arbitration (O40). -/

namespace Sys2Proof.Machine

/-! ## Counts and nodes (R127, R128) -/

theorem satInc_byte (c : Byte) : satInc c = if c = 255 then 255 else c + 1 := by
  unfold satInc
  by_cases hc : c = 255
  · rw [hc]
    rfl
  · rw [if_neg hc, if_neg (show c ≠ BitVec.allOnes 8 from hc)]

namespace NoticeUnit

variable (n : NoticeUnit)

@[simp] theorem updNode_node (k j : NodeNo) (f : Node → Node) :
    (n.updNode k f).node j = if j = k then f (n.node j) else n.node j := upd_get _ _ _ _

@[simp] theorem updNode_offer (k : NodeNo) (f : Node → Node) : (n.updNode k f).offer = n.offer := rfl
@[simp] theorem updNode_due (k : NodeNo) (f : Node → Node) : (n.updNode k f).due = n.due := rfl
@[simp] theorem updNode_repeatTimer (k : NodeNo) (f : Node → Node) :
    (n.updNode k f).repeatTimer = n.repeatTimer := rfl
@[simp] theorem updNode_stack (k : NodeNo) (f : Node → Node) : (n.updNode k f).stack = n.stack := rfl
@[simp] theorem updNode_floor (k : NodeNo) (f : Node → Node) : (n.updNode k f).floor = n.floor := rfl

/-- Two changes that make the same of a node make the same of the unit. -/
theorem updNode_congr {k : NodeNo} {f g : Node → Node} (h : f (n.node k) = g (n.node k)) :
    n.updNode k f = n.updNode k g := by
  rw [node] at h
  rw [updNode, updNode, upd, upd]
  exact congrArg (fun nd => { n with nodes := n.nodes.set k nd }) h

theorem updNode_updNode (k : NodeNo) (f g : Node → Node) :
    (n.updNode k f).updNode k g = n.updNode k (fun nd => g (f nd)) := by
  simp [updNode, upd]

/-- An event on a node (R128). -/
theorem raise_eq (k : NodeNo) (d : Half) : n.raise k d = (n.updNode k (fun nd =>
    { nd with pending := true, count := if nd.count = 255 then 255 else nd.count + 1, detail := d })).arbitrate := by
  simp only [raise, gather, satInc_byte]

/-! ## Eligibility and the winner (R131) -/

theorem eligible_iff (k : NodeNo) : n.eligible k = true ↔ (n.node k).pending = true ∧ (n.node k).enabled = true
    ∧ 1 ≤ (n.node k).level.val ∧ n.floor < (n.node k).level ∧ n.stack.length < Config.stackDepth := by
  simp only [eligible, Bool.and_eq_true, decide_eq_true_eq, and_assoc, Fin.lt_def]

/-- A node goes before another: its level is higher, or its number is not higher at the same level. -/
def Before (k j : NodeNo) : Prop :=
  (n.node j).level < (n.node k).level ∨ (n.node j).level = (n.node k).level ∧ k ≤ j

/-- The best node of a list: eligible, and before every other eligible one; or none, when no node of the list is
eligible. -/
def BestOf (l : List NodeNo) : Option NodeNo → Prop
  | none => ∀ j ∈ l, ¬ n.eligible j = true
  | some k => k ∈ l ∧ n.eligible k = true ∧ ∀ j ∈ l, n.eligible j = true → n.Before k j

variable {n}

theorem Before.refl (k : NodeNo) : n.Before k k := .inr ⟨rfl, le_rfl⟩

theorem Before.of_level_lt {i j k : NodeNo} (h : n.Before i j) (hlt : (n.node i).level < (n.node k).level) :
    n.Before k j :=
  .inl (h.elim hlt.trans' fun h => h.1 ▸ hlt)

theorem Before.antisymm {j k : NodeNo} (h : n.Before k j) (h' : n.Before j k) : k = j := by
  rcases h with h | ⟨heq, h⟩ <;> rcases h' with h' | ⟨heq', h'⟩
  · exact absurd h' h.asymm
  · exact absurd heq' h.ne'
  · exact absurd heq h'.ne'
  · exact le_antisymm h h'

/-- One more node, above those of the list: it takes the best one's place by a higher level only. -/
theorem bestOf_better {l : List NodeNo} {b : Option NodeNo} {k : NodeNo} (h : n.BestOf l b) (hk : ∀ j ∈ l, j ≤ k) :
    n.BestOf (l ++ [k]) (n.better b k) := by
  unfold better
  split
  · next hel =>
    cases b with
    | none =>
      refine ⟨by simp, hel, List.forall_mem_append.2 ⟨fun j hj hej => absurd hej (h j hj), ?_⟩⟩
      simpa using fun _ => Before.refl k
    | some i =>
      obtain ⟨hi, hei, hbest⟩ := h
      dsimp only
      split
      · next hlt =>
        refine ⟨by simp, hel, List.forall_mem_append.2 ⟨fun j hj hej => (hbest j hj hej).of_level_lt hlt, ?_⟩⟩
        simpa using fun _ => Before.refl k
      · next hge =>
        have hnlt : ¬ (n.node i).level < (n.node k).level := hge
        refine ⟨List.mem_append_left _ hi, hei, List.forall_mem_append.2 ⟨hbest, ?_⟩⟩
        have hlast : n.Before i k := (lt_or_eq_of_le (not_lt.1 hnlt)).imp_right fun h => ⟨h, hk i hi⟩
        simpa using fun _ => hlast
  · next hel =>
    have hlast (P : NodeNo → Prop) : ∀ j ∈ [k], n.eligible j = true → P j := by simpa using fun h => absurd h hel
    cases b with
    | none => exact List.forall_mem_append.2 ⟨h, by simpa using hel⟩
    | some i =>
      obtain ⟨hi, hei, hbest⟩ := h
      exact ⟨List.mem_append_left _ hi, hei, List.forall_mem_append.2 ⟨hbest, hlast _⟩⟩

/-- A fold over nodes in rising order ends at the best of them. -/
theorem bestOf_foldl (l : List NodeNo) (h : l.Pairwise (· ≤ ·)) : n.BestOf l (l.foldl n.better none) := by
  induction l using List.reverseRecOn with
  | nil => exact fun j hj => by cases hj
  | append_singleton l k ih =>
    obtain ⟨hl, _, hk⟩ := List.pairwise_append.1 h
    rw [List.foldl_append]
    exact bestOf_better (ih hl) fun j hj => hk j hj k (List.mem_singleton.2 rfl)

theorem bestOf_winner : n.BestOf (indexes 20) n.winner :=
  bestOf_foldl _ ((List.pairwise_lt_finRange 20).imp fun h => h.le)

theorem winner_eq_none_iff : n.winner = none ↔ ∀ k, ¬ n.eligible k = true := by
  have hbest := n.bestOf_winner
  cases hw : n.winner with
  | none =>
    rw [hw] at hbest
    exact ⟨fun _ k => hbest k (List.mem_finRange k), fun _ => rfl⟩
  | some k =>
    rw [hw] at hbest
    exact ⟨nofun, fun h => absurd hbest.2.1 (h k)⟩

theorem winner_eq_some_iff {k : NodeNo} :
    n.winner = some k ↔ n.eligible k = true ∧ ∀ j, n.eligible j = true → n.Before k j := by
  have hbest := n.bestOf_winner
  cases hw : n.winner with
  | none =>
    rw [hw] at hbest
    exact ⟨nofun, fun h => absurd h.1 (hbest k (List.mem_finRange k))⟩
  | some i =>
    rw [hw] at hbest
    obtain ⟨_, hel, hbefore⟩ := hbest
    refine ⟨fun h => ?_, fun ⟨hk, hall⟩ => ?_⟩
    · cases h
      exact ⟨hel, fun j => hbefore j (List.mem_finRange j)⟩
    · rw [(hall i hel).antisymm (hbefore k (List.mem_finRange k) hk)]

/-! ## The four results of an arbitration (R132) -/

theorem clearOffer_of_offer {o : Offer} (ho : n.offer = some o) :
    n.clearOffer = { n.updNode o.node (fun nd => { nd with sent := 0 }) with
      offer := none, due := false, repeatTimer := none } := by
  rw [clearOffer, ho]

theorem arbitrate_idle (hw : n.winner = none) (ho : n.offer = none) : n.arbitrate = n := by
  rw [arbitrate, hw, ho]

theorem arbitrate_withdraw {o : Offer} (hw : n.winner = none) (ho : n.offer = some o) :
    n.arbitrate = n.clearOffer := by
  rw [arbitrate, hw, ho]

theorem arbitrate_offer {k : NodeNo} (hw : n.winner = some k) (ho : n.offer = none) :
    n.arbitrate = n.offerNode k := by
  rw [arbitrate, hw, ho]

theorem arbitrate_continue {k : NodeNo} {o : Offer} (hw : n.winner = some k) (ho : n.offer = some o)
    (hk : o.node = k) : n.arbitrate = n := by
  simp only [arbitrate, hw, ho, hk, if_true]

theorem arbitrate_pass {k : NodeNo} {o : Offer} (hw : n.winner = some k) (ho : n.offer = some o)
    (hk : o.node ≠ k) : n.arbitrate = n.clearOffer.offerNode k := by
  simp only [arbitrate, hw, ho, if_neg hk.symm]

end NoticeUnit

/-- Settles O40: the winner is the best eligible node, and the arbitration has one result for each case. -/
theorem arbitrationOffersTheWinner : Obligations.ArbitrationOffersTheWinner := by
  unfold Obligations.ArbitrationOffersTheWinner
  refine ⟨fun s k d => by rw [State.raise, State.updNotices, NoticeUnit.raise_eq],
    fun n eligible hel => ⟨fun k hk hbest => ?_, fun hnone => ?_⟩⟩
  · have heligible (j) : n.eligible j = true ↔ eligible j := (n.eligible_iff j).trans (hel j).symm
    have hw : n.winner = some k := NoticeUnit.winner_eq_some_iff.2
      ⟨(heligible k).2 hk, fun j hj => hbest j ((heligible j).1 hj)⟩
    refine ⟨fun o ho hn => NoticeUnit.arbitrate_continue hw ho hn, NoticeUnit.arbitrate_offer hw, fun o ho hn => ?_⟩
    rw [NoticeUnit.arbitrate_pass hw ho hn, NoticeUnit.clearOffer_of_offer ho]
    rfl
  · have hw : n.winner = none := NoticeUnit.winner_eq_none_iff.2 fun j hj =>
      hnone j ((hel j).2 ((n.eligible_iff j).1 hj))
    refine ⟨NoticeUnit.arbitrate_idle hw, fun o ho => ?_⟩
    rw [NoticeUnit.arbitrate_withdraw hw ho, NoticeUnit.clearOffer_of_offer ho]

end Sys2Proof.Machine

/-! # PROOFS. Node writes and the notice commands (O5, O12, O13). -/

namespace Sys2Proof.Machine

/-! ## A management request that changes the notice unit (R129, R136, R139, R143) -/

/-- A command that changes the notice unit is answered DONE and changes nothing else. -/
theorem noticeCommand_done {s : State} {h : WriteHead} {c : CommandObject} {p : List Byte} {k : Fin 4}
    {f : NoticeUnit → NoticeUnit} (hs : s.reachesAgent h.tag k) (hp : h.position = 0) (hl : p.length = c.argSize)
    (hu : runCommand (s.readyRx.countFrame.occupyMgmt (commandRequest h c p) k) h.tag p c
      = .done ((s.readyRx.countFrame.occupyMgmt (commandRequest h c p) k).updNotices f)) :
    ∃ u, requestEvent (commandRequest h c p) s = .next u.start
      ∧ s.agentDone u (commandRequest h c p) k ∧ s.sameButNotices u ∧ u.ntu = f s.ntu := by
  obtain ⟨hrec, hself, hbuf, hret, _⟩ := (s.occupyMgmt_takenForStore (commandRequest h c p) k).respond
  refine ⟨_, requestEvent_command_done hs hp hl hu, ⟨hrec, hself, fun v hv => ?_, hbuf, hret⟩, ?_, ?_⟩
  · rw [State.respond_slot, if_neg (show v ≠ h.tag from hv)]
    exact s.otherSlots_occupyMgmt _ k v hv
  · simp [State.sameButNotices]
  · simp

/-! ### The verdicts -/

section Verdicts

variable {s : State} {k : NodeNo}

theorem indexOf_node (k : NodeNo) : indexOf 20 (byteOf k) = some k := indexOf_byteOf k (by decide)

theorem boolOf_boolCode (on : Bool) : boolOf (boolCode on) = some on := by cases on <;> rfl

theorem writeNode_done (level : Level) (on : Bool) :
    writeNode s k [byteOf level, boolCode on] = .done (s.updNotices (fun n => n.writeNode k level on)) := by
  rw [writeNode, show byteAt [byteOf level, boolCode on] 0 = byteOf level from rfl,
    show byteAt [byteOf level, boolCode on] 1 = boolCode on from rfl, indexOf_byteOf level (by decide),
    boolOf_boolCode]

theorem cmdNoticeAck_done (ho : s.ntu.offer = some { node := k, state := .sent }) :
    cmdNoticeAck s (byteOf k) = .done (s.updNotices (fun n => n.ack k)) := by
  simp only [cmdNoticeAck, indexOf_node, NoticeUnit.acceptsAck, ho, decide_true, if_true]

theorem cmdNoticeAck_stale (ho : s.ntu.offer ≠ some { node := k, state := .sent }) :
    cmdNoticeAck s (byteOf k) = .refused .refused .stale := by
  simp [cmdNoticeAck, indexOf_node, NoticeUnit.acceptsAck, ho]

theorem cmdNoticeDone_done (hstack : s.ntu.stack ≠ []) :
    cmdNoticeDone s = .done (s.updNotices (fun n => n.done s.mga.baseFloor)) := by
  simp [cmdNoticeDone, hstack]

theorem cmdNoticeDone_stale (hstack : s.ntu.stack = []) : cmdNoticeDone s = .refused .refused .stale := by
  simp [cmdNoticeDone, hstack]

theorem cmdNoticeForce_set : cmdNoticeForce s (byteOf k) 1 = .done (s.updNotices (fun n => n.forceSet k)) := by
  rw [cmdNoticeForce, indexOf_node]
  rfl

theorem cmdNoticeForce_clear : cmdNoticeForce s (byteOf k) 2 = .done (s.updNotices (fun n => n.forceClear k)) := by
  rw [cmdNoticeForce, indexOf_node]
  rfl

end Verdicts

/-! ### What the notice unit does with them -/

namespace NoticeUnit

variable {n : NoticeUnit}

theorem done_of_stack {l : Level} {ls : List Level} (h : n.stack = l :: ls) (base : Level) :
    n.done base = arbitrate { n with stack := ls, floor := ls.headD base } := by
  rw [done, h]
  rfl

/-- A force with set is an event that keeps the detail (R143). -/
theorem forceSet_eq (k : NodeNo) :
    n.forceSet k = (n.updNode k (fun nd => { nd with pending := true, count := satInc nd.count })).arbitrate :=
  congrArg arbitrate (n.updNode_congr rfl)

/-- A force with clear empties the node, and withdraws it when it is the offer (R143). -/
theorem forceClear_eq (k : NodeNo) :
    n.forceClear k = arbitrate
      (if n.offer.map Offer.node = some k then
        { n.updNode k (fun nd => { nd with pending := false, count := 0, sent := 0 }) with
          offer := none, due := false, repeatTimer := none }
      else n.updNode k (fun nd => { nd with pending := false, count := 0, sent := 0 })) := by
  cases ho : n.offer with
  | none => simp [forceClear, ho]
  | some o =>
    by_cases hk : o.node = k
    · subst hk
      rw [forceClear, clearOffer_of_offer (by rw [updNode_offer, ho]), updNode_updNode]
      simp [ho]
    · simp [forceClear, ho, hk]

end NoticeUnit

/-- Settles O5: the row's bytes give level and enabled, and the write is answered. -/
theorem nodeWriteSetsLevelAndArbitrates : Obligations.NodeWriteSetsLevelAndArbitrates := by
  unfold Obligations.NodeWriteSetsLevelAndArbitrates
  intro s h w n level on k hs hp hg
  have hverdict := mgmtWrite_of_checks
    (s := s.readyRx.countFrame.occupyMgmt (writeRequest h w (nodeObject n) [byteOf level, boolCode on]) k)
    (q := writeRequest h w (nodeObject n) [byteOf level, boolCode on]) (o := .node n) rfl (fun _ => rfl) (.inl hp)
    (fun m hm => by cases hm; rfl)
  have hexec := requestEvent_write_value (p := [byteOf level, boolCode on]) hs hg (by simp) (objectOf_node n)
    (hverdict.trans (writeNode_done level on)) rfl
  have htaken := s.occupyMgmt_takenForStore (writeRequest h w (nodeObject n) [byteOf level, boolCode on]) k
  have hanswered (value : List Byte) := writeAnswered_capture (value := value)
    (u := (s.readyRx.countFrame.occupyMgmt (writeRequest h w (nodeObject n) [byteOf level, boolCode on])
      k).updNotices (fun u => u.writeNode n level on)) htaken.received htaken.own htaken.buffers
  refine ⟨_, hexec, ⟨?_, fun v hv => ?_, ?_⟩, ?_, ?_⟩
  · rw [State.capture_node]
    exact hanswered _
  · rw [State.capture_otherSlot _ hv]
    exact s.otherSlots_occupyMgmt _ k v hv
  · rw [State.returns, State.capture_rtp]
    rfl
  · rw [State.capture_ntu]
    rfl
  · simp [State.sameButNotices]

/-- Settles O12, by the offer for NOTICE_ACK and by the stack for NOTICE_DONE. -/
theorem noticeAckAndDoneServeTheStack : Obligations.NoticeAckAndDoneServeTheStack := by
  unfold Obligations.NoticeAckAndDoneServeTheStack
  refine fun s h k hs hp => ⟨fun n ho => ?_, fun n ho => ?_, fun l ls hstack => ?_, fun hstack => ?_⟩
  · exact noticeCommand_done (c := .noticeAck) (p := [byteOf n]) hs hp rfl (cmdNoticeAck_done ho)
  · exact command_refused (c := .noticeAck) (p := [byteOf n]) hs hp rfl (cmdNoticeAck_stale ho)
  · obtain ⟨u, hexec, hdone, hsame, hntu⟩ := noticeCommand_done (c := .noticeDone) (p := []) hs hp rfl
      (cmdNoticeDone_done (by simp [hstack]))
    exact ⟨u, hexec, hdone, hsame, hntu.trans (NoticeUnit.done_of_stack hstack _)⟩
  · exact command_refused (c := .noticeDone) (p := []) hs hp rfl (cmdNoticeDone_stale hstack)

/-- Settles O13: the two flags, each alone. -/
theorem noticeForceSetsAndClears : Obligations.NoticeForceSetsAndClears := by
  unfold Obligations.NoticeForceSetsAndClears
  refine fun s h k n hs hp => ⟨?_, ?_⟩
  · obtain ⟨u, hexec, hdone, hsame, hntu⟩ := noticeCommand_done (c := .noticeForce) (p := [byteOf n, 1]) hs hp rfl
      cmdNoticeForce_set
    exact ⟨u, hexec, hdone, hsame, hntu.trans (NoticeUnit.forceSet_eq n)⟩
  · obtain ⟨u, hexec, hdone, hsame, hntu⟩ := noticeCommand_done (c := .noticeForce) (p := [byteOf n, 2]) hs hp rfl
      cmdNoticeForce_clear
    exact ⟨u, hexec, hdone, hsame, hntu.trans (NoticeUnit.forceClear_eq n)⟩

end Sys2Proof.Machine

/-! # PROOFS. What the notice unit's operations keep of its law (O57). -/

namespace Sys2Proof.Machine

theorem satInc_byte_ne_zero (c : Byte) : satInc c ≠ 0 := by
  rw [satInc_byte]
  split
  · decide
  · next h => bv_omega

theorem toNat_le_satInc_byte (c : Byte) : c.toNat ≤ (satInc c).toNat := by
  rw [satInc_byte]
  split
  · next h => rw [h]
  · next h => bv_omega

namespace NoticeUnit

variable {n : NoticeUnit} {base : Level}

/-! ## The law but for the choice of the offer -/

/-- What the law says of the nodes, the offer and the stack, whether or not the offer is the winner: what holds inside
an event, before the arbitration. -/
structure Sound (n : NoticeUnit) (base : Level) : Prop where
  pending : ∀ k, (n.node k).pending = decide ((n.node k).count ≠ 0)
  sent    : ∀ k, (n.node k).sent ≠ 0 →
    n.offer = some { node := k, state := .sent } ∧ (n.node k).sent.toNat ≤ (n.node k).count.toNat
  due     : n.due = true → n.offer.isSome = true
  timer   : n.repeatTimer.isSome = true → n.offer.map Offer.state = some .sent
  depth   : n.stack.length ≤ Config.stackDepth
  rising  : n.stack.Pairwise (fun a b => b < a)
  floor   : n.floor = n.stack.headD base

theorem law_iff : n.law base ↔ n.offer.map Offer.node = n.winner ∧ n.Sound base :=
  ⟨fun ⟨hw, hp, hs, hd, ht, hdepth, hrise, hf⟩ => ⟨hw, hp, hs, hd, ht, hdepth, hrise, hf⟩,
    fun ⟨hw, h⟩ => ⟨hw, h.pending, h.sent, h.due, h.timer, h.depth, h.rising, h.floor⟩⟩

theorem law_sound (h : n.law base) : n.Sound base := (law_iff.1 h).2

namespace Sound

/-- With nothing offered, nothing is sent, due or timed. -/
theorem of_noOffer {m : NoticeUnit} (hp : ∀ k, (m.node k).pending = decide ((m.node k).count ≠ 0))
    (hs : ∀ k, (m.node k).sent = 0) (hdue : m.due = false) (htimer : m.repeatTimer = none)
    (hdepth : m.stack.length ≤ Config.stackDepth) (hrise : m.stack.Pairwise (fun a b => b < a))
    (hfloor : m.floor = m.stack.headD base) : m.Sound base where
  pending := hp
  sent    := fun k hk => absurd (hs k) hk
  due     := fun h => by rw [hdue] at h; cases h
  timer   := fun h => by rw [htimer] at h; cases h
  depth   := hdepth
  rising  := hrise
  floor   := hfloor

/-- Only the offered node has a sent count. -/
theorem sent_eq_zero (h : n.Sound base) {k : NodeNo} (hk : ∀ o, n.offer = some o → o.node ≠ k) :
    (n.node k).sent = 0 :=
  of_not_not fun hs => hk _ (h.sent k hs).1 rfl

/-- A change of one node that keeps pending in step with the count and starts or raises no sent count above it. -/
theorem updNode (h : n.Sound base) {k : NodeNo} {f : Node → Node}
    (hp : (f (n.node k)).pending = decide ((f (n.node k)).count ≠ 0))
    (hs : (f (n.node k)).sent ≠ 0 →
      (n.node k).sent ≠ 0 ∧ (f (n.node k)).sent.toNat ≤ (f (n.node k)).count.toNat) :
    (n.updNode k f).Sound base where
  pending := fun j => by
    rw [updNode_node]
    split
    · next hj => rw [hj, hp]
    · exact h.pending j
  sent    := fun j => by
    rw [updNode_node]
    split
    · next hj =>
      subst hj
      exact fun hne => ⟨(h.sent j (hs hne).1).1, (hs hne).2⟩
    · exact h.sent j
  due     := h.due
  timer   := h.timer
  depth   := h.depth
  rising  := h.rising
  floor   := h.floor

/-- A withdrawn or cleared offer takes its sent count, its timer and its due frame with it (R132). -/
theorem clearOffer (h : n.Sound base) : n.clearOffer.Sound base := by
  cases ho : n.offer with
  | none => rwa [NoticeUnit.clearOffer, ho]
  | some o =>
    have hnode := h.updNode (k := o.node) (f := fun nd => { nd with sent := 0 }) (h.pending o.node)
      fun hne => absurd rfl hne
    rw [clearOffer_of_offer ho]
    refine of_noOffer hnode.pending (fun k => ?_) rfl rfl h.depth h.rising h.floor
    show ((n.updNode o.node _).node k).sent = 0
    rw [updNode_node]
    split
    · rfl
    · next hk =>
      refine h.sent_eq_zero fun o' ho' => ?_
      rw [ho] at ho'
      cases ho'
      exact Ne.symm hk

/-- A node is offered when none is (R132). -/
theorem offerNode (h : n.Sound base) (ho : n.offer = none) (k : NodeNo) : (n.offerNode k).Sound base where
  pending := h.pending
  sent    := fun j hj => by
    obtain ⟨hoff, _⟩ := h.sent j hj
    rw [ho] at hoff
    cases hoff
  due     := fun _ => rfl
  timer   := fun ht => by
    have hoff := h.timer ht
    rw [ho] at hoff
    cases hoff
  depth   := h.depth
  rising  := h.rising
  floor   := h.floor

end Sound

/-! ## The arbitration (R131, R132) -/

/-- Sent counts play no part in the choice of the winner. -/
theorem winner_of_sent {m : NoticeUnit} (hnode : ∀ k, ∃ c, m.node k = { n.node k with sent := c })
    (hstack : m.stack = n.stack) (hfloor : m.floor = n.floor) : m.winner = n.winner := by
  have hbetter : m.better = n.better := by
    have hlevel (k) : (m.node k).level = (n.node k).level := by
      obtain ⟨c, hc⟩ := hnode k
      rw [hc]
    have heligible (k) : m.eligible k = n.eligible k := by
      obtain ⟨c, hc⟩ := hnode k
      rw [eligible, hc, hstack, hfloor]
      rfl
    funext b k
    simp only [better, heligible, hlevel]
  rw [winner, winner, hbetter]

theorem clearOffer_offer : n.clearOffer.offer = none := by
  cases ho : n.offer with
  | none => rwa [clearOffer, ho]
  | some o => rw [clearOffer_of_offer ho]

theorem clearOffer_winner : n.clearOffer.winner = n.winner := by
  cases ho : n.offer with
  | none => rw [clearOffer, ho]
  | some o =>
    rw [clearOffer_of_offer ho]
    refine winner_of_sent (fun k => ?_) rfl rfl
    show ∃ c, (n.updNode o.node _).node k = _
    rw [updNode_node]
    split
    · exact ⟨0, rfl⟩
    · exact ⟨_, rfl⟩

theorem offerNode_winner (k : NodeNo) : (n.offerNode k).winner = n.winner :=
  winner_of_sent (fun _ => ⟨_, rfl⟩) rfl rfl

/-- The arbitration makes the offer the winner, and so restores the law. -/
theorem arbitrate_law (h : n.Sound base) : n.arbitrate.law base := by
  rw [law_iff]
  cases hw : n.winner with
  | none =>
    cases ho : n.offer with
    | none =>
      rw [arbitrate_idle hw ho]
      exact ⟨by rw [ho, hw]; rfl, h⟩
    | some o =>
      rw [arbitrate_withdraw hw ho]
      exact ⟨by rw [clearOffer_offer, clearOffer_winner, hw]; rfl, h.clearOffer⟩
  | some k =>
    cases ho : n.offer with
    | none =>
      rw [arbitrate_offer hw ho]
      exact ⟨by rw [offerNode_winner, hw]; rfl, h.offerNode ho k⟩
    | some o =>
      by_cases hk : o.node = k
      · rw [arbitrate_continue hw ho hk]
        exact ⟨by rw [ho, hw, ← hk]; rfl, h⟩
      · rw [arbitrate_pass hw ho hk]
        exact ⟨by rw [offerNode_winner, clearOffer_winner, hw]; rfl, h.clearOffer.offerNode clearOffer_offer k⟩

/-! ## Events and node writes (R128, R129, R143) -/

theorem raise_law (h : n.law base) (k : NodeNo) (d : Half) : (n.raise k d).law base := by
  have hs := law_sound h
  refine arbitrate_law (hs.updNode ?_ fun hne => ⟨hne, ?_⟩)
  · exact (decide_eq_true (satInc_byte_ne_zero _)).symm
  · exact (hs.sent k hne).2.trans (toNat_le_satInc_byte _)

theorem writeNode_law (h : n.law base) (k : NodeNo) (level : Level) (on : Bool) :
    (n.writeNode k level on).law base := by
  have hs := law_sound h
  exact arbitrate_law (hs.updNode (hs.pending k) fun hne => ⟨hne, (hs.sent k hne).2⟩)

theorem forceClear_law (h : n.law base) (k : NodeNo) : (n.forceClear k).law base := by
  have hs := (law_sound h).updNode (k := k) (f := fun nd => { nd with pending := false, count := 0, sent := 0 }) rfl
    fun hne => absurd rfl hne
  refine arbitrate_law ?_
  split
  · exact hs.clearOffer
  · exact hs

/-! ## Service (R136, R139, R140, R145) -/

/-- A level above the floor is above every level in service. -/
theorem lt_of_floor_lt (h : n.Sound base) {l b : Level} (hl : n.floor < l) (hb : b ∈ n.stack) : b < l := by
  have hfloor := h.floor
  have hrise := h.rising
  cases hstack : n.stack with
  | nil =>
    rw [hstack] at hb
    cases hb
  | cons a as =>
    rw [hstack] at hb hfloor hrise
    have ha : a < l := by rwa [hfloor] at hl
    rcases List.mem_cons.1 hb with rfl | hb
    · exact ha
    · exact (List.rel_of_pairwise_cons hrise hb).trans ha

/-- The acknowledged node is the winner, so its level is above the floor and the stack has room for it. -/
theorem ack_law (h : n.law base) {k : NodeNo} (ho : n.offer = some { node := k, state := .sent }) :
    (n.ack k).law base := by
  obtain ⟨hw, hs⟩ := law_iff.1 h
  rw [ho] at hw
  obtain ⟨_, _, _, hfloor, hroom⟩ := (n.eligible_iff k).1 (winner_eq_some_iff.1 hw.symm).1
  refine arbitrate_law (.of_noOffer (fun j => ?_) (fun j => ?_) rfl rfl hroom
    (List.pairwise_cons.2 ⟨fun b hb => lt_of_floor_lt hs hfloor hb, hs.rising⟩) rfl)
  · show ((n.updNode k acknowledged).node j).pending = decide (((n.updNode k acknowledged).node j).count ≠ 0)
    rw [updNode_node]
    split
    · rfl
    · exact hs.pending j
  · show ((n.updNode k acknowledged).node j).sent = 0
    rw [updNode_node]
    split
    · rfl
    · next hj =>
      refine hs.sent_eq_zero fun o ho' => ?_
      rw [ho] at ho'
      cases ho'
      exact Ne.symm hj

/-- Another stack of levels in service, with the floor that goes with it. -/
theorem Sound.setStack (h : n.Sound base) {stack : List Level} {floor base' : Level}
    (hdepth : stack.length ≤ Config.stackDepth) (hrise : stack.Pairwise (fun a b => b < a))
    (hfloor : floor = stack.headD base') : Sound { n with stack := stack, floor := floor } base' :=
  ⟨h.pending, h.sent, h.due, h.timer, hdepth, hrise, hfloor⟩

theorem done_law (h : n.law base) : (n.done base).law base := by
  have hs := law_sound h
  exact arbitrate_law (hs.setStack (by simpa using Nat.le_succ_of_le hs.depth) hs.rising.tail rfl)

theorem setBaseFloor_law (h : n.law base) (base' : Level) : (n.setBaseFloor base').law base' := by
  have hs := law_sound h
  refine arbitrate_law (hs.setStack hs.depth hs.rising ?_)
  rw [hs.floor]
  cases n.stack <;> rfl

theorem restartTraffic_law (h : n.law base) : (n.restartTraffic base).law base := by
  have hnode (k) : (mapAll n.nodes (fun nd => { nd with sent := 0 }))[k] = { n.node k with sent := 0 } :=
    mapAll_get _ _ k
  refine arbitrate_law (.of_noOffer (fun k => ?_) (fun k => ?_) rfl rfl (Nat.zero_le _) .nil rfl)
  · simp only [node, hnode]
    exact (law_sound h).pending k
  · simp only [node, hnode]

/-! ## Notice frames and the repeat timer (R118, R121, R135) -/

theorem toNat_lowerCount (a b : Byte) : (lowerCount a b).toNat = min a.toNat b.toNat := by
  unfold lowerCount
  split <;> omega

/-- The offered node is marked SENT with a sent count that is not above its count (R121). -/
theorem Sound.markSent (h : n.Sound base) {o : Offer} {c : Byte} (ho : n.offer = some o)
    (hc : c.toNat ≤ (n.node o.node).count.toNat) (timer : Option Byte) :
    Sound { n.updNode o.node (fun nd => { nd with sent := c }) with
      offer := some { node := o.node, state := .sent }, repeatTimer := timer } base where
  pending := fun k => by
    show ((n.updNode o.node _).node k).pending = decide (((n.updNode o.node _).node k).count ≠ 0)
    rw [updNode_node]
    split <;> exact h.pending k
  sent    := fun k => by
    show ((n.updNode o.node _).node k).sent ≠ 0 → _ ∧ ((n.updNode o.node _).node k).sent.toNat
      ≤ ((n.updNode o.node _).node k).count.toNat
    rw [updNode_node]
    split
    · next hk => exact fun _ => ⟨by rw [hk], hk ▸ hc⟩
    · next hk =>
      refine fun hne => absurd (h.sent_eq_zero fun o' ho' => ?_) hne
      rw [ho] at ho'
      cases ho'
      exact Ne.symm hk
  due     := fun _ => rfl
  timer   := fun _ => rfl
  depth   := h.depth
  rising  := h.rising
  floor   := h.floor

/-- The end of a frame of the offered node marks it SENT; the end of another's changes nothing (R121). -/
theorem frameEnded_law (h : n.law base) (l : NoticeLatch) : (n.frameEnded l).law base := by
  obtain ⟨hw, hs⟩ := law_iff.1 h
  by_cases hl : ∀ o, n.offer = some o → o.node ≠ l.node
  · rwa [frameEnded_of_withdrawn hl]
  · obtain ⟨o, ho, hnode⟩ : ∃ o, n.offer = some o ∧ o.node = l.node := by simpa using hl
    have hc := toNat_lowerCount l.count (n.node o.node).count
    rw [frameEnded_of_offered ho hnode hc]
    refine law_iff.2 ⟨?_, hs.markSent ho (hc.le.trans (Nat.min_le_right _ _)) _⟩
    rw [ho] at hw
    refine hw.trans (Eq.symm ?_)
    refine winner_of_sent (fun k => ?_) rfl rfl
    show ∃ c, (n.updNode o.node _).node k = _
    rw [updNode_node]
    split <;> exact ⟨_, rfl⟩

/-- A due frame and the timer play no part in the choice of the winner (R131). -/
theorem setDue_law (h : n.law base) {due : Bool} {timer : Option Byte}
    (hdue : due = true → n.offer.isSome = true)
    (htimer : timer.isSome = true → n.offer.map Offer.state = some .sent) :
    NoticeUnit.law { n with due := due, repeatTimer := timer } base := by
  obtain ⟨hw, hs⟩ := law_iff.1 h
  exact law_iff.2 ⟨hw, ⟨hs.pending, hs.sent, hdue, htimer, hs.depth, hs.rising, hs.floor⟩⟩

/-- The repeat timer runs for an offer, so an offer has a frame due at its expiry (R135). -/
theorem expiry_law (h : n.law base) (ht : n.repeatTimer.isSome = true) :
    NoticeUnit.law { n with due := true, repeatTimer := none } base := by
  refine setDue_law h (fun _ => ?_) nofun
  have hsent := (law_sound h).timer ht
  cases ho : n.offer with
  | none => simp [ho] at hsent
  | some o => rfl

/-- The power-on values of the notice unit (R144). -/
theorem reset_law : NoticeUnit.reset.law 0 := by
  have hnode (k) : NoticeUnit.reset.node k = {} := Vector.getElem_replicate k.isLt
  have hw : NoticeUnit.reset.winner = none := winner_eq_none_iff.2 fun k => by simp [eligible, hnode]
  exact law_iff.2 ⟨hw.symm, .of_noOffer (fun k => by simp [hnode]) (fun k => by rw [hnode]) rfl rfl (Nat.zero_le _)
    .nil rfl⟩

end NoticeUnit
end Sys2Proof.Machine

/-! # PROOFS. Every step keeps the notice law (O57). -/

namespace Sys2Proof.Machine

/-- A change of the state keeps the notice law. -/
def State.KeepsNotices (s t : State) : Prop := s.noticeLaw → t.noticeLaw

namespace State

theorem noticeLaw_of_same {s t : State} (h : t.ntu = s.ntu ∧ t.mga.baseFloor = s.mga.baseFloor)
    (hs : s.noticeLaw) : t.noticeLaw := by
  rw [noticeLaw, h.1, h.2]
  exact hs

namespace KeepsNotices

variable {s t u : State}

theorem refl (s : State) : s.KeepsNotices s := id

theorem trans (h : s.KeepsNotices t) (h' : t.KeepsNotices u) : s.KeepsNotices u := h' ∘ h

/-- A change outside the notice unit and the base floor. -/
theorem of_same (h : t.ntu = s.ntu ∧ t.mga.baseFloor = s.mga.baseFloor) : s.KeepsNotices t := noticeLaw_of_same h

/-- A change that keeps the law, before one outside the notice unit and the base floor. -/
theorem then_same (h : s.KeepsNotices t) (hsame : u.ntu = t.ntu ∧ u.mga.baseFloor = t.mga.baseFloor) :
    s.KeepsNotices u := h.trans (of_same hsame)

/-- A change that keeps the law, after one outside the notice unit and the base floor. -/
theorem after_same (hsame : t.ntu = s.ntu ∧ t.mga.baseFloor = s.mga.baseFloor) (h : t.KeepsNotices u) :
    s.KeepsNotices u := (of_same hsame).trans h

end KeepsNotices

variable (s : State)

/-! ## Changes of the notice unit (R118, R128) -/

theorem updNotices_keepsNotices {f : NoticeUnit → NoticeUnit} (h : ∀ b, s.ntu.law b → (f s.ntu).law b) :
    s.KeepsNotices (s.updNotices f) := h _

theorem raise_keepsNotices (k : NodeNo) (d : Half) : s.KeepsNotices (s.raise k d) :=
  s.updNotices_keepsNotices fun _ h => NoticeUnit.raise_law h k d

/-- An event on a node, after a change outside the notice unit. -/
theorem raise_after_same {t : State} (k : NodeNo) (d : Half)
    (h : t.ntu = s.ntu ∧ t.mga.baseFloor = s.mga.baseFloor) : s.KeepsNotices (t.raise k d) :=
  .after_same h (t.raise_keepsNotices k d)

theorem updSeg_keepsNotices (x : Seg) (f : Segment → Segment) : s.KeepsNotices (s.updSeg x f) := .of_same (by simp)

theorem startNotice_keepsNotices (k : NodeNo) : s.KeepsNotices (s.startNotice k) := fun h =>
  NoticeUnit.setDue_law (due := false) (timer := s.ntu.repeatTimer) h nofun (NoticeUnit.law_sound h).timer

theorem start_keepsNotices : s.KeepsNotices s.start := by
  unfold start arbiter
  repeat' split
  · exact s.startNotice_keepsNotices _
  · exact .of_same (by simp)
  · exact .of_same (by simp)
  · exact .refl s
  · exact .refl s

/-! ## Entries, stations and outcomes (R8, R14, R67, R80, R88, R95, R105 to R107) -/

@[simp] theorem completeQuiesce_baseFloor (e : EntryNo) :
    (s.completeQuiesce e).mga.baseFloor = s.mga.baseFloor := by
  unfold completeQuiesce
  split <;> simp

theorem completeQuiesce_keepsNotices (e : EntryNo) : s.KeepsNotices (s.completeQuiesce e) := .of_same (by simp)

theorem countHit_keepsNotices (e : EntryNo) : s.KeepsNotices (s.countHit e) := by
  unfold countHit
  split
  · exact s.raise_after_same _ _ (by simp)
  · exact .of_same (by simp)

theorem leaveEntry_keepsNotices (t : Tag) (o : Option Status) : s.KeepsNotices (s.leaveEntry t o) := by
  unfold leaveEntry
  dsimp only
  repeat' split
  · exact .refl s
  · exact (s.raise_after_same _ _ (by simp)).trans (completeQuiesce_keepsNotices _ _)
  · exact s.raise_after_same _ _ (by simp)
  · exact .of_same (by simp)
  · exact .of_same (by simp)

theorem requestFailure_keepsNotices (x : Seg) (st : Station) : s.KeepsNotices (s.requestFailure x st) := by
  unfold requestFailure
  dsimp only
  repeat' split
  · exact .refl s
  · exact s.raise_after_same _ _ (by simp)
  · exact .of_same (by simp)

theorem probeSuccess_keepsNotices (x : Seg) (i : StationNo) : s.KeepsNotices (s.probeSuccess x i) :=
  s.raise_after_same _ _ (by simp)

theorem judgeFreshness_keepsNotices (r : RecordNo) : s.KeepsNotices (s.judgeFreshness r) := by
  unfold judgeFreshness
  split
  · exact s.raise_after_same _ _ (by simp)
  · exact .refl s

theorem overtake_keepsNotices (t : Tag) (c : CommandObject) : s.KeepsNotices (s.overtake t c) :=
  s.raise_after_same _ _ (by simp)

theorem refuse_keepsNotices (q : Request) (st : Status) (rs : Reason) : s.KeepsNotices (s.refuse q st rs) :=
  s.raise_after_same _ _ (by simp)

theorem turnAway_keepsNotices (t : Tag) (st : Status) : s.KeepsNotices (s.turnAway t st) :=
  (s.leaveEntry_keepsNotices t none).then_same (by simp [turnAway])

theorem handOn_keepsNotices (t : Tag) (o : Status × Reason × PayloadSource) : s.KeepsNotices (s.handOn t o) :=
  (s.leaveEntry_keepsNotices t (some o.1)).then_same (by simp [handOn])

theorem takeHead_keepsNotices (x : Seg) (q : List Tag) : s.KeepsNotices (State.takeHead x q s) := by
  induction q generalizing s with
  | nil => exact s.updSeg_keepsNotices x _
  | cons t q ih =>
    simp only [State.takeHead]
    split
    · exact (s.updSeg_keepsNotices x _).trans ((turnAway_keepsNotices _ t _).trans (ih _))
    · exact .of_same (by simp)

theorem dispatch_keepsNotices (x : Seg) : s.KeepsNotices (s.dispatch x) := by
  unfold dispatch
  dsimp only
  repeat' split
  · exact .of_same (by simp)
  · exact (s.updSeg_keepsNotices x _).trans (takeHead_keepsNotices _ x _)
  · exact s.takeHead_keepsNotices x _
  · exact .refl s

theorem engineRests_keepsNotices (x : Seg) : s.KeepsNotices (s.engineRests x) := by
  unfold engineRests
  dsimp only
  repeat' split
  · exact .of_same (by simp)
  · exact .of_same (by simp)
  · exact (s.updSeg_keepsNotices x _).trans (dispatch_keepsNotices _ x)

theorem answerDown_keepsNotices (q : List Tag) : s.KeepsNotices (State.answerDown q s) := by
  induction q generalizing s with
  | nil => exact .refl s
  | cons t q ih => exact (s.turnAway_keepsNotices t _).trans (ih _)

theorem beginDrain_keepsNotices (x : Seg) (t : Tag) (mark : Bool) : s.KeepsNotices (s.beginDrain x t mark) :=
  .of_same (by simp [beginDrain])

/-! ## The forward path and the local answers (R40 to R45, R61 to R69) -/

theorem forward_keepsNotices (q : Request) (e : Option EntryNo) : s.KeepsNotices (s.forward q e) := by
  unfold forward
  repeat' split
  · exact .of_same (by simp [refuseForward])
  · exact .of_same (by simp [refuseForward])
  · exact .of_same (by simp [refuseForward])
  · exact s.raise_after_same _ _ (by simp [refuseForward])
  · exact s.raise_after_same _ _ (by simp [refuseForward])
  · exact .after_same (by simp [enqueue]) (dispatch_keepsNotices _ _)

theorem fixedAnswer_keepsNotices (q : Request) (r : RecordNo) : s.KeepsNotices (s.fixedAnswer q r) := by
  unfold fixedAnswer
  split <;> exact .of_same (by simp)

theorem streamAnswer_keepsNotices (q : Request) (r : RecordNo) : s.KeepsNotices (s.streamAnswer q r) := by
  unfold streamAnswer chunkAnswer
  dsimp only
  repeat' split
  · exact .of_same (by simp)
  · exact s.raise_after_same _ _ (by simp)
  · exact .of_same (by simp)
  · exact .of_same (by simp)

theorem mirrorAnswer_keepsNotices (q : Request) (e : EntryNo) (r : RecordNo) :
    s.KeepsNotices (s.mirrorAnswer q e r) := by
  have hjudge := s.judgeFreshness_keepsNotices r
  unfold mirrorAnswer
  dsimp only
  repeat' split
  · exact hjudge.then_same (by simp)
  · exact hjudge.trans (forward_keepsNotices _ q _)
  · exact s.forward_keepsNotices q _

/-! ## Admission (R33 to R39) -/

theorem act_keepsNotices (q : Request) (e : EntryNo) : s.KeepsNotices (s.act q e) := by
  unfold act
  repeat' split
  · exact s.forward_keepsNotices q _
  · exact .after_same (by simp) (fixedAnswer_keepsNotices (s.occupyLocal q e) q _)
  · exact s.forward_keepsNotices q _
  · exact .after_same (by simp) (streamAnswer_keepsNotices (s.occupyLocal q e) q _)
  · exact s.mirrorAnswer_keepsNotices q e _

theorem hit_keepsNotices (q : Request) (e : EntryNo) : s.KeepsNotices (s.hit q e) := by
  have hcount := s.countHit_keepsNotices e
  unfold hit
  split
  · exact hcount.then_same (by simp)
  · exact hcount.trans (act_keepsNotices _ q e)

theorem miss_keepsNotices (q : Request) : s.KeepsNotices (s.miss q) := by
  have hmiss := s.raise_keepsNotices nodeMiss (stationDetail q.station)
  unfold miss
  dsimp only
  split
  · exact hmiss.then_same (by simp)
  · exact hmiss.trans (forward_keepsNotices _ q none)

theorem clash_keepsNotices (q : Request) : s.KeepsNotices (s.clash q) := by
  have hclash := s.raise_keepsNotices nodeTagClash (halfNat q.tag)
  unfold clash
  dsimp only
  split <;> exact hclash.then_same (by simp)

theorem toStation_keepsNotices (q : Request) : s.KeepsNotices (s.toStation q) := by
  unfold toStation
  repeat' split
  · exact .of_same (by simp)
  · exact s.miss_keepsNotices q
  · exact s.hit_keepsNotices q _

end State

/-! ## The agent's verdicts (R129, R135, R136, R139, R140, R143, R157) -/

/-- Whatever state a verdict gives, it keeps the notice law. -/
def Verdict.KeepsNotices (s : State) : Verdict → Prop
  | .done t => s.KeepsNotices t
  | .waits t => s.KeepsNotices t
  | .refused _ _ => True

section Verdicts

open State

variable (s : State)

theorem writeNode_keepsNotices (k : NodeNo) (p : List Byte) : (writeNode s k p).KeepsNotices s := by
  unfold writeNode
  split
  · exact s.updNotices_keepsNotices fun _ h => NoticeUnit.writeNode_law h k _ _
  · trivial

/-- The base floor and the floor move together while no level is in service (R140). -/
theorem writeGeneral_keepsNotices (p : List Byte) : (writeGeneral s p).KeepsNotices s := by
  unfold writeGeneral
  repeat' split
  · trivial
  · exact fun h => NoticeUnit.setBaseFloor_law h _
  · trivial

theorem writeNoticeConfig_keepsNotices (p : List Byte) : (writeNoticeConfig s p).KeepsNotices s := by
  unfold writeNoticeConfig
  split
  · trivial
  · exact id

theorem cmdNoticeAck_keepsNotices (arg : Byte) : (cmdNoticeAck s arg).KeepsNotices s := by
  unfold cmdNoticeAck
  repeat' split
  · trivial
  · next hack => exact s.updNotices_keepsNotices fun _ h => NoticeUnit.ack_law h (of_decide_eq_true hack)
  · trivial

theorem cmdNoticeDone_keepsNotices : (cmdNoticeDone s).KeepsNotices s := by
  unfold cmdNoticeDone
  split
  · trivial
  · exact fun h => NoticeUnit.done_law h

theorem cmdNoticeForce_keepsNotices (arg flags : Byte) : (cmdNoticeForce s arg flags).KeepsNotices s := by
  unfold cmdNoticeForce
  repeat' split
  · trivial
  · trivial
  · exact s.updNotices_keepsNotices fun _ h => NoticeUnit.raise_law h _ _
  · exact s.updNotices_keepsNotices fun _ h => NoticeUnit.forceClear_law h _
  · exact KeepsNotices.refl s

theorem cmdEntryHold_keepsNotices (t : Tag) (arg : Byte) : (cmdEntryHold s t arg).KeepsNotices s := by
  unfold cmdEntryHold
  repeat' split
  · trivial
  · trivial
  · exact KeepsNotices.of_same (by simp)
  · exact KeepsNotices.of_same (by simp)

theorem cmdEntryRelease_keepsNotices (arg : Byte) : (cmdEntryRelease s arg).KeepsNotices s := by
  unfold cmdEntryRelease
  dsimp only
  repeat' split
  · trivial
  · exact KeepsNotices.of_same (by simp)
  · exact .after_same (by simp) (overtake_keepsNotices (s.updEntry _ _) _ _)

theorem cmdEntryBar_keepsNotices (arg : Byte) : (cmdEntryBar s arg).KeepsNotices s := by
  unfold cmdEntryBar
  split
  · trivial
  · exact KeepsNotices.of_same (by simp)

theorem cmdEntryUnbar_keepsNotices (arg : Byte) : (cmdEntryUnbar s arg).KeepsNotices s := by
  unfold cmdEntryUnbar
  split
  · trivial
  · exact KeepsNotices.of_same (by simp)

theorem cmdStreamRewind_keepsNotices (arg : Byte) : (cmdStreamRewind s arg).KeepsNotices s := by
  unfold cmdStreamRewind
  repeat' split
  · trivial
  · exact KeepsNotices.of_same (by simp)
  · trivial

theorem cmdMirrorInvalidate_keepsNotices (arg : Byte) : (cmdMirrorInvalidate s arg).KeepsNotices s := by
  unfold cmdMirrorInvalidate
  repeat' split
  · trivial
  · exact KeepsNotices.of_same (by simp)
  · trivial

theorem cmdSegmentEnable_keepsNotices (arg : Byte) : (cmdSegmentEnable s arg).KeepsNotices s := by
  unfold cmdSegmentEnable
  dsimp only
  repeat' split
  · trivial
  · exact s.dispatch_keepsNotices _
  · exact (s.updSeg_keepsNotices _ _).trans (dispatch_keepsNotices _ _)
  · exact (s.updSeg_keepsNotices _ _).trans (dispatch_keepsNotices _ _)
  · exact ((s.updSeg_keepsNotices _ _).trans (overtake_keepsNotices _ _ _)).trans (dispatch_keepsNotices _ _)

theorem cmdSegmentDisable_keepsNotices (t : Tag) (arg : Byte) : (cmdSegmentDisable s t arg).KeepsNotices s := by
  have hdown (x : Seg) (f : Segment → Segment) (q : List Tag) : s.KeepsNotices (answerDown q (s.updSeg x f)) :=
    (s.updSeg_keepsNotices x f).trans (answerDown_keepsNotices _ q)
  unfold cmdSegmentDisable
  dsimp only
  repeat' split
  · trivial
  · exact KeepsNotices.refl s
  · trivial
  · exact (hdown _ _ _).trans (beginDrain_keepsNotices _ _ t _)
  · exact (hdown _ _ _).trans (beginDrain_keepsNotices _ _ t _)
  · exact (hdown _ _ _).trans (updSeg_keepsNotices _ _ _)

theorem cmdStationForget_keepsNotices (arg : Byte) : (cmdStationForget s arg).KeepsNotices s := by
  unfold cmdStationForget
  split
  · trivial
  · exact KeepsNotices.of_same (by simp)

theorem cmdRestart_keepsNotices (t : Tag) (arg : Byte) : (cmdRestart s t arg).KeepsNotices s := by
  unfold cmdRestart
  split
  · trivial
  · exact KeepsNotices.of_same (by simp)

theorem runCommand_keepsNotices (t : Tag) (p : List Byte) (c : CommandObject) :
    (runCommand s t p c).KeepsNotices s := by
  cases c
  case entryHold => exact cmdEntryHold_keepsNotices s t _
  case entryRelease => exact cmdEntryRelease_keepsNotices s _
  case entryBar => exact cmdEntryBar_keepsNotices s _
  case entryUnbar => exact cmdEntryUnbar_keepsNotices s _
  case streamRewind => exact cmdStreamRewind_keepsNotices s _
  case mirrorInvalidate => exact cmdMirrorInvalidate_keepsNotices s _
  case segmentEnable => exact cmdSegmentEnable_keepsNotices s _
  case segmentDisable => exact cmdSegmentDisable_keepsNotices s t _
  case stationForget => exact cmdStationForget_keepsNotices s _
  case noticeAck => exact cmdNoticeAck_keepsNotices s _
  case noticeDone => exact cmdNoticeDone_keepsNotices s
  case noticeForce => exact cmdNoticeForce_keepsNotices s _ _
  case countersClear => exact KeepsNotices.of_same (by simp)
  case restart => exact cmdRestart_keepsNotices s t _

theorem writeSegmentConfig_keepsNotices (x : Seg) (p : List Byte) : (writeSegmentConfig s x p).KeepsNotices s := by
  unfold writeSegmentConfig
  dsimp only
  repeat' split
  · trivial
  · trivial
  · exact s.updSeg_keepsNotices x _

theorem writeEntry_keepsNotices (e : EntryNo) (p : List Byte) : (writeEntry s e p).KeepsNotices s := by
  unfold writeEntry
  repeat' split
  · trivial
  · trivial
  · exact KeepsNotices.of_same (by simp [replaceEntry])

theorem writeDescriptor_keepsNotices (n : RecordNo) (p : List Byte) : (writeDescriptor s n p).KeepsNotices s := by
  unfold writeDescriptor
  repeat' split
  · trivial
  · trivial
  · trivial
  · trivial
  · trivial
  · exact KeepsNotices.of_same (by simp)

theorem writeRecordData_keepsNotices (n : RecordNo) (position : Nat) (p : List Byte) :
    (writeRecordData s n position p).KeepsNotices s := by
  unfold writeRecordData dataWritten
  repeat' split
  · trivial
  · trivial
  · trivial
  · trivial
  · exact KeepsNotices.of_same (by simp)
  · exact KeepsNotices.of_same (by simp)
  · exact KeepsNotices.of_same (by simp)

theorem writeStation_keepsNotices (i : StationNo) (p : List Byte) : (writeStation s i p).KeepsNotices s := by
  unfold writeStation
  split
  · trivial
  · exact KeepsNotices.of_same (by simp)

theorem ownerWrite_keepsNotices (q : Request) (o : MgmtObject) : (ownerWrite s q o).KeepsNotices s := by
  cases o
  case general => exact writeGeneral_keepsNotices s _
  case segment x => exact writeSegmentConfig_keepsNotices s x _
  case notice => exact writeNoticeConfig_keepsNotices s _
  case command c => exact runCommand_keepsNotices s _ _ c
  case entry n => exact writeEntry_keepsNotices s n _
  case descriptor n => exact writeDescriptor_keepsNotices s n _
  case recordData n => exact writeRecordData_keepsNotices s n _ _
  case station i => exact writeStation_keepsNotices s i _
  case node k => exact writeNode_keepsNotices s k _
  case identity => trivial
  case counters => trivial
  case unknown => trivial

theorem mgmtWrite_keepsNotices (q : Request) (o : MgmtObject) : (mgmtWrite s q o).KeepsNotices s := by
  unfold mgmtWrite
  repeat' split
  · trivial
  · trivial
  · trivial
  · exact ownerWrite_keepsNotices s q o

end Verdicts

namespace State

variable (s : State)

theorem conclude_keepsNotices (q : Request) (o : MgmtObject) {v : Verdict} (h : v.KeepsNotices s) :
    s.KeepsNotices (s.conclude q o v) := by
  cases v with
  | done t =>
    rw [conclude_done]
    exact KeepsNotices.then_same h (by simp)
  | waits t => exact h
  | refused st rs => exact s.refuse_keepsNotices q st rs

theorem manage_keepsNotices (q : Request) : s.KeepsNotices (s.manage q) := by
  unfold manage mgmtRead
  repeat' split
  · exact s.refuse_keepsNotices q _ _
  · exact s.refuse_keepsNotices q _ _
  · exact .of_same (by simp)
  · exact s.refuse_keepsNotices q _ _
  · exact s.refuse_keepsNotices q _ _
  · exact s.refuse_keepsNotices q _ _
  · exact .of_same (by simp)
  · exact s.conclude_keepsNotices q _ (mgmtWrite_keepsNotices s q _)

/-! ## The acceptance decision (R33 to R38) and the upstream receiver (R167, R172) -/

theorem toAgent_keepsNotices (q : Request) : s.KeepsNotices (s.toAgent q) := by
  unfold toAgent
  split
  · exact .of_same (by simp)
  · exact .after_same (by simp) (manage_keepsNotices _ q)

theorem accept_keepsNotices (q : Request) : s.KeepsNotices (s.accept q) := by
  unfold accept
  repeat' split
  · exact .of_same (by simp)
  · exact s.clash_keepsNotices q
  · exact s.toAgent_keepsNotices q
  · exact s.toStation_keepsNotices q

theorem judgeUpstream_keepsNotices (r : Except Half Request) : s.KeepsNotices (s.judgeUpstream r) := by
  cases r with
  | error d => exact s.raise_after_same _ _ (by simp)
  | ok q => exact .after_same (by simp) (accept_keepsNotices s.countFrame q)

theorem upstreamFrameEnd_keepsNotices : s.KeepsNotices s.upstreamFrameEnd := by
  unfold upstreamFrameEnd
  split
  · exact .refl s
  · exact .of_same (by simp)
  · exact .after_same (by simp) (judgeUpstream_keepsNotices s.readyRx _)

theorem receiveRequest_keepsNotices (q : Request) : s.KeepsNotices (s.receiveRequest q) := by
  unfold receiveRequest
  split
  · exact .of_same (by simp)
  · exact .after_same (by simp) (judgeUpstream_keepsNotices s.readyRx _)
  · exact .after_same (by simp) (judgeUpstream_keepsNotices s.readyRx _)

/-! ## The segments' events (R81 to R93) -/

theorem acceptResponse_keepsNotices (x : Seg) (r : Response) : s.KeepsNotices (s.acceptResponse x r) := by
  unfold acceptResponse
  split
  · exact .refl s
  · exact (KeepsNotices.after_same (by simp) (handOn_keepsNotices _ _ _)).trans (updSeg_keepsNotices _ x _)
  · exact (s.probeSuccess_keepsNotices x _).trans (updSeg_keepsNotices _ x _)

theorem judgeSegmentFrame_keepsNotices (x : Seg) (f : Option Response) :
    s.KeepsNotices (s.judgeSegmentFrame x f) := by
  unfold judgeSegmentFrame
  repeat' split
  · exact .refl s
  · exact .refl s
  · exact s.updSeg_keepsNotices x _
  · exact s.updSeg_keepsNotices x _
  · exact s.updSeg_keepsNotices x _
  · exact s.acceptResponse_keepsNotices x _
  · exact s.updSeg_keepsNotices x _
  · exact s.updSeg_keepsNotices x _

theorem segmentFrameRxEnd_keepsNotices (x : Seg) : s.KeepsNotices (s.segmentFrameRxEnd x) := by
  unfold segmentFrameRxEnd
  dsimp only
  repeat' split
  · exact .refl s
  · exact s.updSeg_keepsNotices x _
  · exact s.updSeg_keepsNotices x _
  · exact (s.updSeg_keepsNotices x _).trans (judgeSegmentFrame_keepsNotices _ x _)

theorem segmentFrameTxEnd_keepsNotices (x : Seg) : s.KeepsNotices (s.segmentFrameTxEnd x) := by
  unfold segmentFrameTxEnd
  dsimp only
  repeat' split
  · exact (s.handOn_keepsNotices _ _).trans (updSeg_keepsNotices _ x _)
  · exact s.updSeg_keepsNotices x _
  · exact s.updSeg_keepsNotices x _
  · exact .refl s

theorem responseTimerExpiry_keepsNotices (x : Seg) : s.KeepsNotices (s.responseTimerExpiry x) := by
  unfold responseTimerExpiry
  split
  · exact s.updSeg_keepsNotices x _
  · exact .refl s

/-- SEG_FAIL, and LOST when the station is lost, are raised before ENTRY_HELD (R88). -/
theorem failOutcome_keepsNotices (x : Seg) (t : Tag) (f : AttemptFailure) : s.KeepsNotices (s.failOutcome x t f) :=
  ((s.raise_keepsNotices _ _).trans (requestFailure_keepsNotices _ x _)).trans (handOn_keepsNotices _ t _)

theorem gapEnd_keepsNotices (x : Seg) : s.KeepsNotices (s.gapEnd x) := by
  unfold gapEnd
  repeat' split
  · exact .of_same (by simp [retry])
  · exact (s.failOutcome_keepsNotices x _ _).trans (engineRests_keepsNotices _ x)
  · exact s.engineRests_keepsNotices x
  · exact .refl s

theorem probeTimerExpiry_keepsNotices (x : Seg) : s.KeepsNotices (s.probeTimerExpiry x) := by
  unfold probeTimerExpiry
  split
  · exact (s.updSeg_keepsNotices x _).trans (dispatch_keepsNotices _ x)
  · exact .refl s

/-! ## Power-on and the restarts (R144, R145, R163 to R166) -/

/-- A state whose notice unit and base floor have their power-on values meets the law. -/
theorem keepsNotices_of_reset {t : State} (hntu : t.ntu = NoticeUnit.reset) (hbase : t.mga.baseFloor = 0) :
    s.KeepsNotices t := fun _ => by
  rw [noticeLaw, hntu, hbase]
  exact NoticeUnit.reset_law

theorem performRestart_keepsNotices (t : Tag) : s.KeepsNotices (s.performRestart t) := by
  unfold performRestart
  repeat' split
  · exact .refl s
  · exact fun h => NoticeUnit.restartTraffic_law h
  · exact s.keepsNotices_of_reset rfl rfl
  · exact .refl s

/-! ## The upstream transmitter's events (R114 to R122, R135) -/

theorem responseFrameEnd_keepsNotices : s.KeepsNotices s.responseFrameEnd := by
  unfold responseFrameEnd
  split
  · exact .after_same (by simp) (performRestart_keepsNotices _ _)
  · exact .refl s

theorem clashFrameEnd_keepsNotices : s.KeepsNotices s.clashFrameEnd := by
  unfold clashFrameEnd
  split
  · exact .of_same (by simp)
  · exact .refl s

theorem noticeFrameEnd_keepsNotices : s.KeepsNotices s.noticeFrameEnd := by
  unfold noticeFrameEnd
  split
  · exact (s.updNotices_keepsNotices (f := (·.frameEnded s.rtp.latch))
      fun _ h => NoticeUnit.frameEnded_law h _).then_same (by simp)
  · exact .refl s

theorem spacingEnd_keepsNotices : s.KeepsNotices s.spacingEnd := by
  unfold spacingEnd
  split
  · exact .after_same (by simp) (start_keepsNotices _)
  · exact .refl s

theorem repeatTimerExpiry_keepsNotices : s.KeepsNotices s.repeatTimerExpiry := by
  unfold repeatTimerExpiry
  split
  · next ht =>
    exact (s.updNotices_keepsNotices fun _ h => NoticeUnit.expiry_law h ht).trans (start_keepsNotices _)
  · exact .refl s

theorem byteArrival_keepsNotices (b : Byte) (l : Line) : s.KeepsNotices (s.byteArrival b l) := by
  cases l with
  | upstream => exact .of_same ⟨rfl, rfl⟩
  | segment x => exact s.updSeg_keepsNotices x (fun g => g.byte b)

theorem receiverIdleGap_keepsNotices (l : Line) : s.KeepsNotices (s.receiverIdleGap l) := by
  cases l with
  | upstream => exact s.upstreamFrameEnd_keepsNotices
  | segment x => exact s.segmentFrameRxEnd_keepsNotices x

end State

/-! ## Every event and every step -/

open State

theorem quietEvent_keepsNotices {f : State → State} {s t : State} (hf : s.KeepsNotices (f s))
    (h : quietEvent f s = .next t) : s.KeepsNotices t := by
  cases h
  split
  · exact KeepsNotices.refl s
  · exact hf

theorem event_keepsNotices {f : State → State} {s t : State} (hf : s.KeepsNotices (f s)) (h : event f s = .next t) :
    s.KeepsNotices t :=
  quietEvent_keepsNotices (hf.trans (f s).start_keepsNotices) h

theorem execResetAssert_keepsNotices {w : PulseWidth} {s t : State} (h : execResetAssert w s = .next t) :
    s.KeepsNotices t := by
  cases w with
  | full =>
    cases h
    exact s.keepsNotices_of_reset rfl rfl
  | short =>
    cases h
    split
    · exact s.keepsNotices_of_reset rfl rfl
    · exact KeepsNotices.of_same ⟨rfl, rfl⟩

theorem exec_keepsNotices {i : Instr} {s t : State} (h : exec i s = .next t) : s.KeepsNotices t := by
  cases hq : requestOfRow i with
  | some q =>
    rw [exec_of_requestOfRow hq] at h
    exact event_keepsNotices (s.receiveRequest_keepsNotices q) h
  | none =>
    cases i
    case upstreamFrameEnd => exact event_keepsNotices s.upstreamFrameEnd_keepsNotices h
    case dispatch x => exact event_keepsNotices (f := (·.dispatch x)) (s.dispatch_keepsNotices x) h
    case segmentFrameTxEnd x =>
      exact event_keepsNotices (f := (·.segmentFrameTxEnd x)) (s.segmentFrameTxEnd_keepsNotices x) h
    case segmentFrameRxEnd x =>
      exact event_keepsNotices (f := (·.segmentFrameRxEnd x)) (s.segmentFrameRxEnd_keepsNotices x) h
    case responseTimerExpiry x =>
      exact quietEvent_keepsNotices (f := (·.responseTimerExpiry x)) (s.responseTimerExpiry_keepsNotices x) h
    case gapEnd x => exact event_keepsNotices (f := (·.gapEnd x)) (s.gapEnd_keepsNotices x) h
    case probeTimerExpiry x =>
      exact event_keepsNotices (f := (·.probeTimerExpiry x)) (s.probeTimerExpiry_keepsNotices x) h
    case mirrorAgeTick => exact quietEvent_keepsNotices (f := mirrorAgeTick) (.of_same (by simp)) h
    case startOfTransmission => exact quietEvent_keepsNotices s.start_keepsNotices h
    case responseFrameEnd => exact quietEvent_keepsNotices s.responseFrameEnd_keepsNotices h
    case clashFrameEnd => exact quietEvent_keepsNotices s.clashFrameEnd_keepsNotices h
    case noticeFrameEnd => exact quietEvent_keepsNotices s.noticeFrameEnd_keepsNotices h
    case spacingEnd => exact quietEvent_keepsNotices s.spacingEnd_keepsNotices h
    case repeatTimerExpiry => exact quietEvent_keepsNotices s.repeatTimerExpiry_keepsNotices h
    case resetAssert w => exact execResetAssert_keepsNotices h
    case resetRelease =>
      cases h
      split
      · exact s.keepsNotices_of_reset rfl rfl
      · exact KeepsNotices.refl s
    case powerUp =>
      cases h
      exact s.keepsNotices_of_reset rfl rfl
    case receiverIdleGap l =>
      exact event_keepsNotices (f := (·.receiverIdleGap l)) (s.receiverIdleGap_keepsNotices l) h
    case byteArrival l b =>
      exact quietEvent_keepsNotices (f := (·.byteArrival b l)) (s.byteArrival_keepsNotices b l) h
    all_goals cases hq

theorem step_keepsNotices {s t : State} (h : step s = .next t) : s.KeepsNotices t := by
  unfold step at h
  split at h
  · cases h
    exact KeepsNotices.refl s
  · next c rest _ => exact KeepsNotices.after_same (t := { s with pending := rest }) ⟨rfl, rfl⟩ (exec_keepsNotices h)

/-- Settles O57: every operation of the notice unit keeps the law, its arbitration last, and every other leaves the
unit and the base floor alone. -/
theorem everyStepKeepsTheNoticeLaw : Obligations.EveryStepKeepsTheNoticeLaw := by
  unfold Obligations.EveryStepKeepsTheNoticeLaw
  exact fun s t => step_keepsNotices

end Sys2Proof.Machine

/-! # PROOFS. RESET# and the supply, and the laws after reset (O46, O47, O60). -/

namespace Sys2Proof.Machine

/-! ## RESET# and the supply (R165, R166, R179) -/

/-- While RESET# is asserted no event takes place (R165). -/
theorem quietEvent_of_asserted {f : State → State} {s : State} (h : s.resetAsserted = true) :
    quietEvent f s = .next s := by
  rw [quietEvent, if_pos h]

theorem execResetRelease_of_asserted {s : State} (h : s.resetAsserted = true) :
    execResetRelease s = .next s.powerOn := by
  rw [execResetRelease, if_pos h]

theorem execResetRelease_of_released {s : State} (h : s.resetAsserted = false) : execResetRelease s = .next s := by
  rw [execResetRelease, if_neg (by simp [h])]

theorem execResetAssert_short_of_taken {s : State} (h : Config.shortPulseTaken s.freeIndex = true) :
    execResetAssert .short s = .next ({ s with freeIndex := s.freeIndex + 1 } : State).assertReset := by
  simp only [execResetAssert, h, if_true]

theorem execResetAssert_short_of_free {s : State} (h : Config.shortPulseTaken s.freeIndex = false) :
    execResetAssert .short s = .next { s with freeIndex := s.freeIndex + 1 } := by
  simp only [execResetAssert, h, Bool.false_eq_true, if_false]

/-- Settles O46, pin event by pin event. -/
theorem resetAndPowerUpTakePowerOnValues : Obligations.ResetAndPowerUpTakePowerOnValues := by
  unfold Obligations.ResetAndPowerUpTakePowerOnValues
  exact fun s => ⟨rfl, execResetRelease_of_asserted, execResetRelease_of_released, rfl,
    execResetAssert_short_of_taken, execResetAssert_short_of_free⟩

/-- Every row but those of the pin and the supply is an event that takes place with RESET# released only (R165). -/
theorem exec_eq_quietEvent {c : Instr} (hassert : ∀ w, c ≠ .resetAssert w) (hrelease : c ≠ .resetRelease)
    (hpower : c ≠ .powerUp) : ∃ f, ∀ s, exec c s = quietEvent f s := by
  cases hq : requestOfRow c with
  | some q => exact ⟨_, exec_of_requestOfRow hq⟩
  | none =>
    cases c
    case resetAssert w => exact absurd rfl (hassert w)
    case resetRelease => exact absurd rfl hrelease
    case powerUp => exact absurd rfl hpower
    case upstreamFrameEnd | dispatch | segmentFrameTxEnd | segmentFrameRxEnd | responseTimerExpiry | gapEnd
        | probeTimerExpiry | mirrorAgeTick | startOfTransmission | responseFrameEnd | clashFrameEnd | noticeFrameEnd
        | spacingEnd | repeatTimerExpiry | receiverIdleGap | byteArrival => exact ⟨_, fun _ => rfl⟩
    all_goals cases hq

/-- Settles O47. -/
theorem assertedResetHoldsEverything : Obligations.AssertedResetHoldsEverything := by
  unfold Obligations.AssertedResetHoldsEverything
  intro s c hr hassert hrelease hpower
  obtain ⟨f, hf⟩ := exec_eq_quietEvent hassert hrelease hpower
  rw [hf, quietEvent_of_asserted hr]

/-! ## The laws after reset -/

theorem State.reset_blank : State.reset.Blank := State.powerOn_blank State.reset

theorem State.reset_started : State.reset.Started := fun _ => ⟨rfl, rfl, rfl⟩

/-- Settles O60: the laws of the tables, of the notice unit, and of a state with every slot FREE. -/
theorem resetMeetsTheLaws : Obligations.ResetMeetsTheLaws := by
  unfold Obligations.ResetMeetsTheLaws
  have hlaws : State.reset.Laws True none [] := State.reset_blank.laws
  exact ⟨State.reset_storeLaw, State.reset_regionLaw, State.reset_recordLaw, State.reset_phaseLaw,
    State.reset_presenceLaw, NoticeUnit.reset_law, hlaws.toPlaceLaw State.reset_started, hlaws.toAccountLaw,
    hlaws.toHoldLaw trivial, hlaws.claims trivial⟩

end Sys2Proof.Machine

/-! # PROOFS. A management request that has taken its slot, whatever tables it changes (O6, O14, O26). -/

namespace Sys2Proof.Machine

/-- A request to the agent has taken its slot and management buffer `k`, and since its frame arrived nothing else of
the request table, the return path and the link has changed. -/
structure State.TakenByAgent (s u : State) (q : Request) (k : Fin 4) : Prop where
  received : s.received u
  own      : u.slot q.tag = mgmtSlot q k
  others   : s.otherSlots u q.tag
  buffers  : s.sameBuffers u
  rtp      : u.rtp = s.rtp

theorem State.occupyMgmt_takenByAgent (s : State) (q : Request) (k : Fin 4) :
    s.TakenByAgent (s.readyRx.countFrame.occupyMgmt q k) q k :=
  have h := s.occupyMgmt_takenForStore q k
  ⟨h.received, h.own, s.otherSlots_occupyMgmt q k, h.buffers, h.rtp⟩

namespace State.TakenByAgent

variable {s u : State} {q : Request} {k : Fin 4}

theorem updAgent (h : s.TakenByAgent u q k) (f : Agent → Agent) : s.TakenByAgent (u.updAgent f) q k :=
  ⟨h.received, h.own, h.others, h.buffers, h.rtp⟩

theorem updNotices (h : s.TakenByAgent u q k) (f : NoticeUnit → NoticeUnit) : s.TakenByAgent (u.updNotices f) q k :=
  ⟨h.received, h.own, h.others, h.buffers, h.rtp⟩

theorem updSeg (h : s.TakenByAgent u q k) (x : Seg) (f : Segment → Segment) : s.TakenByAgent (u.updSeg x f) q k := by
  cases x <;> exact ⟨h.received, h.own, h.others, h.buffers, h.rtp⟩

/-- An accepted write is answered, and answers no other slot (R151, R152). -/
theorem capture (h : s.TakenByAgent u q k) (value : List Byte) :
    s.writeDone (u.capture q (if q.function = fnExchange then value else [])) q k value := by
  refine ⟨writeAnswered_capture h.received h.own h.buffers, fun v hv => ?_, ?_⟩
  · rw [capture_otherSlot _ hv, h.others v hv]
  · rw [State.returns, capture_rtp, h.rtp]

/-- An accepted command is answered (R156). -/
theorem respond (h : s.TakenByAgent u q k) : s.agentDone (u.respond q.tag .done .none .none) q k := by
  refine ⟨h.received, ?_, fun v hv => ?_, h.buffers, ?_⟩
  · rw [respond_slot, if_pos rfl, h.own]
    rfl
  · rw [respond_slot, if_neg hv, h.others v hv]
  · rw [State.returns, respond_rtp, h.rtp]

end State.TakenByAgent

end Sys2Proof.Machine

/-! # PROOFS. What the agent answers and refuses before an object's own checks (O26, O27). -/

namespace Sys2Proof.Machine

/-! ## The checks of a request to station 127 (R148 to R152) -/

/-- A requested length in range, and no payload where the function takes none. -/
theorem badLength_eq_false {q : Request} (hp : q.function = 1 ∨ q.function = 4 → q.payload = [])
    (hl : q.reqLen.toNat ≤ 240) : badLength q = false := by
  refine Bool.eq_false_iff.2 fun h => ?_
  rcases (badLength_iff q).1 h with ⟨hf, hne⟩ | ⟨_, hlong⟩
  · exact hne (hp hf)
  · omega

theorem knownFunction_eq_false {f : Byte} :
    knownFunction f = false ↔ f ≠ 1 ∧ f ≠ 2 ∧ f ≠ 3 ∧ f ≠ 4 := by
  rw [← Bool.not_eq_true, knownFunction_iff]
  simp only [not_or]

theorem MgmtObject.isData_eq_false {o : MgmtObject} : o.isData = false ↔ ∀ n, o ≠ .recordData n := by
  cases o <;> simp [MgmtObject.isData]

/-- Only an object that takes a READ has a value (R149, R150). -/
theorem readable_of_objectValue {s : State} {position : Nat} {o : MgmtObject} {v : List Byte}
    (h : objectValue s position o = some v) : o.readable = true := by
  cases o
  case command => cases h
  case unknown => cases h
  all_goals rfl

section Checks

variable {s : State} {q : Request} {o : MgmtObject}

theorem manage_badLength (h : badLength q = true) : s.manage q = s.refuse q .badRequest .badLength := by
  rw [State.manage, if_pos h]

theorem manage_badFunction (hl : badLength q = false) (hf : knownFunction q.function = false) :
    s.manage q = s.refuse q .badRequest .badFunction := by
  rw [State.manage, if_neg (by simp [hl]), if_pos (by simp [hf])]

theorem manage_ping (hl : badLength q = false) (hf : q.function = 4) :
    s.manage q = s.respond q.tag .done .none .none := by
  rw [State.manage, if_neg (by simp [hl]), if_neg (by simp [hf, knownFunction, fnPing]),
    if_pos (show q.function = fnPing from hf)]

theorem manage_read (hl : badLength q = false) (hf : q.function = 1) :
    s.manage q = s.mgmtRead q (objectOf q.object) := by
  rw [State.manage, if_neg (by simp [hl]), if_neg (by simp [hf, knownFunction, fnRead]),
    if_neg (by simp [hf, fnPing]), if_pos (show q.function = fnRead from hf)]

theorem mgmtRead_badObject (h : o.readable = false) : s.mgmtRead q o = s.refuse q .refused .badObject := by
  rw [State.mgmtRead, if_pos (by simp [h])]

theorem mgmtRead_badPosition (hr : o.readable = true) (hp : q.position ≠ 0) (hd : o.isData = false) :
    s.mgmtRead q o = s.refuse q .refused .badValue := by
  rw [State.mgmtRead, if_neg (by simp [hr]), if_pos (by simpa [hd] using hp)]

theorem mgmtRead_noData {n : RecordNo} (h : s.recordData n q.position.toNat = none) :
    s.mgmtRead q (.recordData n) = s.refuse q .refused .badValue := by
  simp [State.mgmtRead, MgmtObject.readable, MgmtObject.isData, objectValue, h]

theorem mgmtRead_value {v : List Byte} (hp : q.position = 0 ∨ o.isData = true)
    (hv : objectValue s q.position.toNat o = some v) : s.mgmtRead q o = s.capture q v := by
  rw [State.mgmtRead, if_neg (by simp [readable_of_objectValue hv]), if_neg (by simpa [imp_iff_not_or] using hp), hv]

theorem mgmtWrite_badObject (h : o.writable = false ∨ q.function = fnExchange ∧ o.readable = false) :
    mgmtWrite s q o = .refused .refused .badObject := by
  rw [mgmtWrite, if_pos (by simpa using h)]

theorem mgmtWrite_badValue (hw : o.writable = true) (hr : q.function = fnExchange → o.readable = true)
    (h : q.position ≠ 0 ∧ o.isData = false ∨ ∃ n, o.writeSize = some n ∧ q.payload.length ≠ n) :
    mgmtWrite s q o = .badValue := by
  rw [mgmtWrite, if_neg (by simpa [hw] using hr)]
  rcases h with hpos | ⟨n, hn, hl⟩
  · rw [if_pos (by simpa using hpos)]
  · split
    · rfl
    · rw [if_pos (by simpa [hn] using hl)]

end Checks

/-- A write that a check refuses, whichever of the two functions asks for it (R151, R152). -/
theorem manage_of_refusedWrite {s : State} {q : Request} {st : Status} {rs : Reason}
    (hf : q.function = 2 ∨ q.function = 3 ∧ q.reqLen.toNat ≤ 240)
    (h : mgmtWrite s q (objectOf q.object) = .refused st rs) : s.manage q = s.refuse q st rs := by
  have hmanage : s.manage q = s.conclude q (objectOf q.object) (mgmtWrite s q (objectOf q.object)) := by
    rcases hf with hwrite | ⟨hexchange, hlen⟩
    exacts [manage_write hwrite, manage_exchange hexchange hlen]
  rw [hmanage, h]
  rfl

theorem recordData_eq_none {s : State} {n : RecordNo} {position : Nat} :
    s.recordData n position = none ↔ (s.record n).kind = .none ∨ (s.record n).size ≤ position := by
  simp [State.recordData, or_iff_not_imp_left]

/-- Settles O27, check by check in the agent's order. -/
theorem agentRefusesInOrder : Obligations.AgentRefusesInOrder := by
  unfold Obligations.AgentRefusesInOrder
  intro s q k o st rs hrec hadm h127 hk ho hcheck
  subst ho
  rw [exec_of_agent hrec hadm h127 hk]
  refine ⟨_, rfl, ?_⟩
  suffices hrefused : (s.readyRx.countFrame.occupyMgmt q k).manage q
      = (s.readyRx.countFrame.occupyMgmt q k).refuse q st rs by
    rw [hrefused]
    exact refuse_agentRefuses s
  rcases hcheck with ⟨hbad, rfl, rfl⟩ | ⟨h1, h2, h3, h4, hl, rfl, rfl⟩ | ⟨h1, hp, hl, rfl, hread⟩
    | ⟨hf, rfl, hwrite⟩
  · exact manage_badLength ((badLength_iff q).2 hbad)
  · exact manage_badFunction (badLength_eq_false (fun hf => (hf.elim h1 h4).elim) hl)
      (knownFunction_eq_false.2 ⟨h1, h2, h3, h4⟩)
  · rw [manage_read (badLength_eq_false (fun _ => hp) hl) h1]
    rcases hread with ⟨hr, rfl⟩ | ⟨hr, hpos, hdata, rfl⟩ | ⟨⟨n, hn, hnone⟩, rfl⟩
    · exact mgmtRead_badObject hr
    · exact mgmtRead_badPosition hr hpos (MgmtObject.isData_eq_false.2 hdata)
    · rw [hn]
      exact mgmtRead_noData (recordData_eq_none.2 hnone)
  · refine manage_of_refusedWrite hf ?_
    rcases hwrite with ⟨hobj, rfl⟩ | ⟨hw, hr, rfl, hval⟩
    · exact mgmtWrite_badObject hobj
    · exact mgmtWrite_badValue hw hr (hval.imp_left fun h => ⟨h.1, MgmtObject.isData_eq_false.2 h.2⟩)

/-! ## PING and READ (R148, R150, R153) -/

/-- Taking its slot and buffer does not change what a request reads. -/
theorem objectValue_occupyMgmt (s : State) (q : Request) (k : Fin 4) (position : Nat) (o : MgmtObject) :
    objectValue (s.readyRx.countFrame.occupyMgmt q k) position o = objectValue s.countFrame position o := by
  cases o
  case segment x => cases x <;> rfl
  all_goals rfl

/-- A request answered DONE with no payload changes nothing but its slot. -/
theorem respondDone_effect (s : State) (q : Request) (k : Fin 4) :
    s.agentDone ((s.readyRx.countFrame.occupyMgmt q k).respond q.tag .done .none .none) q k
      ∧ s.sameTables ((s.readyRx.countFrame.occupyMgmt q k).respond q.tag .done .none .none) :=
  ⟨(s.occupyMgmt_takenByAgent q k).respond, by simp [State.sameTables, State.sameButEntries, State.sameRest]⟩

/-- Settles O26: what each object's value is, and that a READ captures it. -/
theorem agentAnswersPingAndRead : Obligations.AgentAnswersPingAndRead := by
  unfold Obligations.AgentAnswersPingAndRead
  intro s q k hrec hadm h127 hk hp hl
  have hlen : badLength q = false := badLength_eq_false (fun _ => hp) hl
  rw [exec_of_agent hrec hadm h127 hk]
  refine ⟨fun hf => ⟨_, rfl, ?_⟩, fun hf v hobj => ⟨_, rfl, ?_⟩⟩
  · rw [manage_ping hlen hf]
    exact respondDone_effect s q k
  · have hvalue : objectValue s.countFrame q.position.toNat (objectOf q.object) = some v
        ∧ (q.position = 0 ∨ (objectOf q.object).isData = true) := by
      rcases hobj with ⟨ho, hpos, rfl⟩ | ⟨ho, hpos, rfl⟩ | ⟨x, ho, hpos, rfl⟩ | ⟨ho, hpos, rfl⟩ | ⟨ho, hpos, rfl⟩
        | ⟨n, ho, hpos, rfl⟩ | ⟨n, ho, hpos, rfl⟩ | ⟨n, ho, hpos, rfl⟩ | ⟨i, ho, hpos, rfl⟩ | ⟨n, ho, hpos, rfl⟩
      · exact ⟨by rw [ho]; rfl, .inl hpos⟩
      · exact ⟨by rw [ho]; rfl, .inl hpos⟩
      · exact ⟨by rw [ho, objectOf_segment]; cases x <;> rfl, .inl hpos⟩
      · exact ⟨by rw [ho]; rfl, .inl hpos⟩
      · exact ⟨by rw [ho]; rfl, .inl hpos⟩
      · exact ⟨by rw [ho, objectOf_entry]; rfl, .inl hpos⟩
      · exact ⟨by rw [ho, objectOf_descriptor]; rfl, .inl hpos⟩
      · refine ⟨?_, .inr (by rw [ho, objectOf_recordData]; rfl)⟩
        have hkind : (s.record n).kind ≠ .none := fun hnone => by simp [Record.size, hnone] at hpos
        rw [ho, objectOf_recordData]
        exact if_neg (not_or.2 ⟨hkind, hpos.not_ge⟩)
      · exact ⟨by rw [ho, objectOf_station]; rfl, .inl hpos⟩
      · exact ⟨by rw [ho, objectOf_node]; rfl, .inl hpos⟩
    rw [manage_read hlen hf, mgmtRead_value hvalue.2 ((objectValue_occupyMgmt s q k _ _).trans hvalue.1)]
    exact capture_effect s

end Sys2Proof.Machine

/-! # PROOFS. Configuration writes (O6), COUNTERS_CLEAR and RESTART (O14). -/

namespace Sys2Proof.Machine

/-! ## A write of a configuration object (R94, R135, R140, R154) -/

/-- A write that its object's owner accepts, with a payload of the object's size. -/
theorem write_done {s u : State} {h : WriteHead} {w : WriteKind} {o : Half} {p : List Byte} {k : Fin 4}
    {ob : MgmtObject} {value : List Byte} (hs : s.reachesAgent h.tag k) (hg : goodLength w h) (hp : h.position = 0)
    (ho : objectOf o = ob) (hwr : ob.writable = true) (hrd : ob.readable = true)
    (hsize : ob.writeSize = some p.length) (hl : p.length ≤ 240)
    (hu : ownerWrite (s.readyRx.countFrame.occupyMgmt (writeRequest h w o p) k) (writeRequest h w o p) ob = .done u)
    (hv : objectValue u h.position.toNat ob = some value)
    (htaken : s.TakenByAgent u (writeRequest h w o p) k) :
    ∃ bytes, requestEvent (writeRequest h w o p) s = .next (u.capture (writeRequest h w o p) bytes).start
      ∧ s.writeDone (u.capture (writeRequest h w o p) bytes) (writeRequest h w o p) k value := by
  have hverdict := mgmtWrite_of_checks (s := s.readyRx.countFrame.occupyMgmt (writeRequest h w o p) k)
    (q := writeRequest h w o p) hwr (fun _ => hrd) (.inl hp)
    (fun n hn => Option.some.inj (hsize.symm.trans hn))
  exact ⟨_, requestEvent_write_value hs hg hl ho (hverdict.trans hu) hv, htaken.capture value⟩

theorem fallbackOf_code (x : Fallback) : fallbackOf x.code = some x := by cases x <;> rfl

theorem halfOf_hiByte_loByte (w : Half) : halfOf (hiByte w) (loByte w) = w := by
  refine BitVec.eq_of_toNat_eq ?_
  have hw : w.toNat < 65536 := w.isLt
  rw [halfOf_toNat, hiByte, loByte]
  simp only [BitVec.extractLsb'_toNat, Nat.shiftRight_eq_div_pow]
  omega

section Verdicts

variable {s : State}

theorem writeGeneral_done (miss : Fallback) {threshold : Fin 16} (base : Level) (ht : threshold ≠ 0) :
    writeGeneral s [miss.code, byteOf threshold, byteOf base]
      = .done ((s.updAgent (fun m =>
          { m with missAction := miss, absenceThreshold := threshold, baseFloor := base })).updNotices
            (fun n => n.setBaseFloor base)) := by
  rw [writeGeneral, show byteAt [miss.code, byteOf threshold, byteOf base] 0 = miss.code from rfl,
    show byteAt [miss.code, byteOf threshold, byteOf base] 1 = byteOf threshold from rfl,
    show byteAt [miss.code, byteOf threshold, byteOf base] 2 = byteOf base from rfl, fallbackOf_code,
    indexOf_byteOf threshold (by decide), indexOf_byteOf base (by decide)]
  exact if_neg ht

theorem writeSegmentConfig_done (x : Seg) {timeout : Byte} (limit : Fin 8) {interval : Half} (ht : timeout ≠ 0)
    (hi : interval ≠ 0) :
    writeSegmentConfig s x ([timeout, byteOf limit] ++ be16 interval)
      = .done (s.updSeg x (fun g =>
          { g with respTimeout := timeout, retryLimit := limit, probeInterval := interval })) := by
  have hhalf : halfOf (byteAt ([timeout, byteOf limit] ++ be16 interval) 2)
      (byteAt ([timeout, byteOf limit] ++ be16 interval) 3) = interval := halfOf_hiByte_loByte interval
  rw [writeSegmentConfig, hhalf, show byteAt ([timeout, byteOf limit] ++ be16 interval) 0 = timeout from rfl,
    show byteAt ([timeout, byteOf limit] ++ be16 interval) 1 = byteOf limit from rfl,
    indexOf_byteOf limit (by decide)]
  exact if_neg (not_or.2 ⟨ht, hi⟩)

theorem writeNoticeConfig_done {interval : Byte} (hi : interval ≠ 0) :
    writeNoticeConfig s [interval] = .done (s.updNotices (fun n => { n with repeatInterval := interval })) :=
  if_neg hi

end Verdicts

theorem NoticeUnit.setBaseFloor_eq (n : NoticeUnit) (base : Level) :
    n.setBaseFloor base = arbitrate { n with floor := if n.stack = [] then base else n.floor } := by
  simp only [setBaseFloor, List.isEmpty_iff]

section Rows

variable {s : State} {h : WriteHead} {w : WriteKind} {k : Fin 4}

theorem generalConfigurationWrite_done (hs : s.reachesAgent h.tag k) (hp : h.position = 0) (hg : goodLength w h)
    (miss : Fallback) (threshold : Fin 16) (base : Level) (ht : threshold ≠ 0) :
    ∃ u, exec (.generalConfigurationWrite h w [miss.code, byteOf threshold, byteOf base]) s = .next u.start
      ∧ s.writeDone u (writeRequest h w 0x0002 [miss.code, byteOf threshold, byteOf base]) k (generalBytes u.mga)
      ∧ u.mga = { s.mga with missAction := miss, absenceThreshold := threshold, baseFloor := base }
      ∧ u.ntu = NoticeUnit.arbitrate { s.ntu with floor := if s.ntu.stack = [] then base else s.ntu.floor }
      ∧ u.entries = s.entries ∧ u.rst = s.rst ∧ u.segA = s.segA ∧ u.segB = s.segB ∧ u.stations = s.stations := by
  obtain ⟨bytes, hexec, hdone⟩ := write_done (o := 0x0002) (ob := .general) hs hg hp (by decide) rfl rfl rfl
    (by simp) (writeGeneral_done miss base ht) rfl (((s.occupyMgmt_takenByAgent _ k).updAgent _).updNotices _)
  refine ⟨_, hexec, ?_, ?_, ?_, ?_⟩
  · rw [State.capture_mga]
    exact hdone
  · simp
  · rw [State.capture_ntu]
    exact NoticeUnit.setBaseFloor_eq _ base
  · simp

theorem segmentConfigurationWrite_done (hs : s.reachesAgent h.tag k) (hp : h.position = 0) (hg : goodLength w h)
    (x : Seg) (timeout : Byte) (limit : Fin 8) (interval : Half) (ht : timeout ≠ 0) (hi : interval ≠ 0) :
    ∃ u, exec (.segmentConfigurationWrite h w x ([timeout, byteOf limit] ++ be16 interval)) s = .next u.start
      ∧ s.writeDone u (writeRequest h w (segmentObject x) ([timeout, byteOf limit] ++ be16 interval)) k
          (segmentBytes (u.seg x))
      ∧ u.seg x = { s.seg x with respTimeout := timeout, retryLimit := limit, probeInterval := interval }
      ∧ s.sameButSegment u x := by
  obtain ⟨bytes, hexec, hdone⟩ := write_done hs hg hp (objectOf_segment x) rfl rfl rfl (by simp [be16])
    (writeSegmentConfig_done x limit ht hi) rfl ((s.occupyMgmt_takenByAgent _ k).updSeg x _)
  refine ⟨_, hexec, ?_, ?_, ?_, ?_, fun y hy => ?_, ?_⟩
  · rw [State.capture_seg]
    exact hdone
  · simp
  · simp
  · simp
  · simp [hy]
  · simp [State.sameRest]

theorem noticeConfigurationWrite_done (hs : s.reachesAgent h.tag k) (hp : h.position = 0) (hg : goodLength w h)
    (interval : Byte) (hi : interval ≠ 0) :
    ∃ u, exec (.noticeConfigurationWrite h w [interval]) s = .next u.start
      ∧ s.writeDone u (writeRequest h w 0x0005 [interval]) k (noticeBytes u.ntu)
      ∧ u.ntu = { s.ntu with repeatInterval := interval } ∧ s.sameButNotices u := by
  obtain ⟨bytes, hexec, hdone⟩ := write_done (o := 0x0005) (ob := .notice) hs hg hp (by decide) rfl rfl rfl
    (by simp) (writeNoticeConfig_done hi) rfl ((s.occupyMgmt_takenByAgent _ k).updNotices _)
  refine ⟨_, hexec, ?_, ?_, ?_⟩
  · rw [State.capture_ntu]
    exact hdone
  · simp
  · simp [State.sameButNotices]

end Rows

/-- Settles O6, object by object. -/
theorem configurationWritesSetTheirFields : Obligations.ConfigurationWritesSetTheirFields := by
  unfold Obligations.ConfigurationWritesSetTheirFields
  exact fun s h w k hs hp hg => ⟨generalConfigurationWrite_done hs hp hg, segmentConfigurationWrite_done hs hp hg,
    noticeConfigurationWrite_done hs hp hg⟩

/-! ## COUNTERS_CLEAR and RESTART (R160, R161) -/

theorem State.clearCounters_seg (s : State) (x : Seg) :
    s.clearCounters.seg x = { s.seg x with counters := {} } := by cases x <;> rfl

theorem State.clearCounters_counters (s : State) : s.clearCounters.counters = {} := rfl

theorem scopeOf_code (scope : Scope) : scopeOf scope.code = some scope := by cases scope <;> rfl

theorem cmdRestart_done (s : State) (t : Tag) (scope : Scope) :
    cmdRestart s t scope.code
      = .done (s.updAgent (fun m => { m with restart := some { tag := t, scope := scope } })) := by
  rw [cmdRestart, scopeOf_code]

/-- A RESTART of either scope is answered DONE and sets the restart record (R161). -/
theorem restart_done {s : State} {h : WriteHead} {k : Fin 4} (hs : s.reachesAgent h.tag k) (hp : h.position = 0)
    (scope : Scope) :
    ∃ u, requestEvent (commandRequest h .restart [scope.code]) s = .next u.start
      ∧ s.agentDone u (commandRequest h .restart [scope.code]) k
      ∧ u.mga = { s.mga with restart := some { tag := h.tag, scope := scope } } ∧ s.sameButAgent u := by
  refine ⟨_, requestEvent_command_done hs hp rfl (cmdRestart_done _ h.tag scope),
    ((s.occupyMgmt_takenByAgent (commandRequest h .restart [scope.code]) k).updAgent _).respond, ?_, ?_⟩
  · simp
  · simp [State.sameButAgent]

/-- Settles O14: the clearing writes the counters alone, and the two scopes of RESTART its record. -/
theorem countersClearAndRestartAreAccepted : Obligations.CountersClearAndRestartAreAccepted := by
  unfold Obligations.CountersClearAndRestartAreAccepted
  refine fun s h k hs hp => ⟨?_, restart_done hs hp .traffic, restart_done hs hp .full⟩
  obtain ⟨_, hself, hothers, hbuf, hret⟩ := (s.occupyMgmt_takenByAgent (commandRequest h .countersClear []) k).respond
  refine ⟨_, requestEvent_command_done (c := .countersClear) (p := []) hs hp rfl rfl, hself, hothers, hbuf, hret, ?_,
    fun x => ?_, ?_⟩
  · simp [State.clearCounters_counters]
  · simp [State.clearCounters_seg]
  · simp [State.sameRest]

end Sys2Proof.Machine

/-! # PROOFS. Restarts, as performed at the end of their frame (O44). -/

namespace Sys2Proof.Machine

/-! ## RESTART TRAFFIC (R101, R145, R163) -/

/-- The notice unit before the arbitration of a RESTART TRAFFIC: no node is offered, none has a sent count, and the
service stack is empty (R145). -/
theorem NoticeUnit.restartTraffic_eq_arbitrate (n : NoticeUnit) (base : Level) :
    ∃ m : NoticeUnit, n.restartTraffic base = m.arbitrate ∧ (∀ k, m.node k = { n.node k with sent := 0 })
      ∧ m.offer = none ∧ m.due = false ∧ m.repeatTimer = none ∧ m.repeatInterval = n.repeatInterval
      ∧ m.stack = [] ∧ m.floor = base :=
  ⟨_, rfl, fun k => mapAll_get _ _ k, rfl, rfl, rfl, rfl, rfl, rfl⟩

namespace State

theorem performTraffic_slot (s : State) (v : Tag) : s.performTraffic.slot v = {} := Vector.getElem_replicate v.isLt

theorem performTraffic_entry (s : State) (e : EntryNo) :
    s.performTraffic.entry e = { s.entry e with inFlight := 0, holder := none } := mapAll_get _ _ e

theorem performTraffic_record (s : State) (r : RecordNo) :
    s.performTraffic.record r = { s.record r with pins := 0, claim := none } := mapAll_get _ _ r

theorem performTraffic_seg (s : State) (x : Seg) : s.performTraffic.seg x = (s.seg x).restartTraffic := by
  cases x <;> rfl

/-! ## The end of a RESTART's frame (R122) -/

section FrameEnd

variable {s : State} {t : Tag}

theorem performRestart_of_traffic (h : s.mga.restart = some { tag := t, scope := .traffic }) :
    s.performRestart t = s.performTraffic := by
  simp only [performRestart, h, if_true]

theorem performRestart_of_full (h : s.mga.restart = some { tag := t, scope := .full }) :
    s.performRestart t = s.performFull := by
  simp only [performRestart, h, if_true]

/-- The state in which a restart is performed: the slot is freed, the frame counted, and the transmitter in SPACING. -/
def afterFrame (s : State) (t : Tag) : State := ((s.freeSlot t).countResponse).updReturn ReturnPath.space

theorem responseFrameEnd_of_slot (htx : s.rtp.txState = .transmitting) (hc : s.rtp.carries = .slot t) :
    s.responseFrameEnd = (s.afterFrame t).performRestart t := by
  simp only [responseFrameEnd, htx, hc, afterFrame]

/-- The end of a frame changes the slot, the pin that it held, the count and the transmitter only. -/
theorem afterFrame_eq (s : State) (t : Tag) : s.afterFrame t = { s with
    ort := { s.ort with slots := (s.freeSlot t).ort.slots }
    rst := { s.rst with records := (s.freeSlot t).rst.records }
    counters := { s.counters with txResponses := satInc s.counters.txResponses }
    rtp := s.rtp.space } := by
  rw [afterFrame, freeSlot_eq]
  rfl

end FrameEnd

/-- Of the records a RESTART TRAFFIC keeps nothing that the freed slot's pin has changed (R75). -/
theorem freeSlot_unpinnedRecords (s : State) (t : Tag) :
    mapAll (s.freeSlot t).rst.records (fun r => { r with pins := 0, claim := none })
      = mapAll s.rst.records (fun r => { r with pins := 0, claim := none }) := by
  refine Vector.ext fun i hi => ?_
  have hfreed := s.freeSlot_record t ⟨i, hi⟩
  have hget (v : Vector Record 48) := mapAll_get v (fun r => { r with pins := 0, claim := none }) ⟨i, hi⟩
  refine (hget _).trans (Eq.trans ?_ (hget _).symm)
  rw [show (s.freeSlot t).rst.records[(⟨i, hi⟩ : RecordNo)] = _ from hfreed]
  split <;> rfl

/-- A RESTART TRAFFIC clears what the freed slot held with the rest; the frame's count and its spacing remain (R163). -/
theorem performTraffic_afterFrame (s : State) (t : Tag) : (s.afterFrame t).performTraffic = { s.performTraffic with
    rtp := { s.rtp with queue := [], txState := .spacing, carries := .nothing, frame := [] }
    counters := { s.counters with txResponses := satInc s.counters.txResponses } } := by
  rw [afterFrame_eq]
  simp only [performTraffic, freeSlot_unpinnedRecords]
  rfl

/-- A RESTART FULL keeps the receivers and the model's own fields, and the transmitter runs out its spacing (R164;
log 10). -/
theorem performFull_afterFrame (s : State) (t : Tag) : (s.afterFrame t).performFull = s.performFull := by
  rw [afterFrame_eq]
  rfl

end State

open State

/-- Settles O44: the end of the frame, then the restart of its scope. -/
theorem performedRestartsActByScope : Obligations.PerformedRestartsActByScope := by
  unfold Obligations.PerformedRestartsActByScope
  intro s t hr htx hc
  rw [exec_responseFrameEnd hr, responseFrameEnd_of_slot htx hc]
  refine ⟨fun hrestart => ?_, fun hrestart => ?_⟩
  · rw [performRestart_of_traffic (by simpa [afterFrame] using hrestart), performTraffic_afterFrame]
    exact ⟨_, rfl, s.performTraffic_slot, rfl, rfl, rfl, s.performTraffic_entry, s.performTraffic_record, rfl,
      s.performTraffic_seg, rfl, rfl, s.ntu.restartTraffic_eq_arbitrate _, rfl, rfl, rfl, rfl, rfl, rfl⟩
  · rw [performRestart_of_full (by simpa [afterFrame] using hrestart), performFull_afterFrame, performFull, hr]
    rfl

end Sys2Proof.Machine

/-! # PROOFS. The byte layouts of the objects (O54). -/

namespace Sys2Proof.Machine

/-! ## Bytes, high byte first (scope chapter, "Byte order") -/

theorem be16_eq (w : Half) : be16 w = [byteOf (w.toNat / 256), byteOf (w.toNat % 256)] := by
  have hhi : hiByte w = byteOf (w.toNat / 256) := BitVec.eq_of_toNat_eq (by
    simp [hiByte, byteOf, Nat.shiftRight_eq_div_pow])
  have hlo : loByte w = byteOf (w.toNat % 256) := BitVec.eq_of_toNat_eq (by
    simp [loByte, byteOf])
  rw [be16, hhi, hlo]

theorem be32_eq (w : Long) : be32 w = [byteOf (w.toNat / 2 ^ 24), byteOf (w.toNat / 2 ^ 16 % 256),
    byteOf (w.toNat / 256 % 256), byteOf (w.toNat % 256)] := by
  have hbyte (i : Nat) : w.extractLsb' i 8 = byteOf (w.toNat / 2 ^ i % 256) := BitVec.eq_of_toNat_eq (by
    simp [byteOf, Nat.shiftRight_eq_div_pow])
  have htop : byteOf (w.toNat / 2 ^ 24 % 256) = byteOf (w.toNat / 2 ^ 24) := BitVec.eq_of_toNat_eq (by
    simp [byteOf])
  rw [be32, hbyte, hbyte, hbyte, hbyte, htop, pow_zero, Nat.div_one]
  rfl

theorem be16_halfOf (hi lo : Byte) : be16 (halfOf hi lo) = [hi, lo] := by
  have hhi : hiByte (halfOf hi lo) = hi := BitVec.eq_of_toNat_eq (by
    have := hi.isLt
    have := lo.isLt
    simp only [hiByte, BitVec.extractLsb'_toNat, halfOf_toNat, Nat.shiftRight_eq_div_pow]
    omega)
  have hlo : loByte (halfOf hi lo) = lo := BitVec.eq_of_toNat_eq (by
    have := lo.isLt
    simp only [loByte, BitVec.extractLsb'_toNat, halfOf_toNat, Nat.shiftRight_eq_div_pow]
    omega)
  rw [be16, hhi, hlo]

theorem byteOf_toNat (b : Byte) : byteOf b.toNat = b := by simp [byteOf]

theorem halfNat_toNat (w : Half) : halfNat w.toNat = w := by simp [halfNat]

/-- A list of bytes is read off byte by byte. -/
theorem ofFn_byteAt {p : List Byte} {n : Nat} (h : p.length = n) : List.ofFn (fun i : Fin n => byteAt p i) = p := by
  subst h
  simp [byteAt]

/-! ## The codes of the fields (R174) -/

theorem Fallback.code_eq (x : Fallback) : x.code = if x = .refuse then 0 else 1 := by cases x <;> rfl

theorem segCode_eq (x : Seg) : segCode x = if x = .a then 1 else 2 := by cases x <;> rfl

theorem MirrorState.code_eq (x : MirrorState) : x.code = if x = .valid then 1 else 0 := by cases x <;> rfl

theorem boolCode_eq (b : Bool) : boolCode b = byteOf b.toNat := by cases b <;> rfl

theorem FunctionSet.code_eq (f : FunctionSet) :
    f.code = byteOf (f.read.toNat + 2 * f.write.toNat + 4 * f.exchange.toNat + 8 * f.ping.toNat) := by
  obtain ⟨r, w, x, p⟩ := f
  revert r w x p
  decide

theorem Entry.flagBits_eq (e : Entry) : e.flagBits = byteOf (e.valid.toNat + 2 * e.hold.toNat
    + 4 * e.barred.toNat + 8 * e.holdAfterDone.toNat + 16 * e.holdOnShort.toNat) := by
  unfold Entry.flagBits
  generalize e.valid = v
  generalize e.hold = h
  generalize e.barred = b
  generalize e.holdAfterDone = d
  generalize e.holdOnShort = s
  revert v h b d s
  decide

/-! ## The objects as read (R174 to R176) -/

theorem stackBytes_length (stack : List Level) : (stackBytes stack).length = 4 := by
  simp [stackBytes]

/-- The stack positions from bottom to top, 0 above the depth (R155). -/
theorem byteAt_stackBytes (stack : List Level) {i : Nat} (hi : i < 4) :
    byteAt (stackBytes stack) i = match stack.reverse[i]? with | none => 0 | some l => byteOf l := by
  have hzero (j : Nat) : ([0, 0, 0, 0] : List Byte)[j]?.getD 0 = 0 := by
    cases h : ([0, 0, 0, 0] : List Byte)[j]? with
    | none => rfl
    | some b => simpa using List.mem_of_getElem? h
  rw [byteAt, stackBytes, List.getD_eq_getElem?_getD, List.getElem?_take_of_lt hi, List.getElem?_append,
    List.getElem?_map]
  split
  · next hlt =>
    rw [List.length_map] at hlt
    rw [List.getElem?_eq_getElem hlt]
    rfl
  · next hge =>
    rw [List.length_map, Nat.not_lt] at hge
    rw [hzero, List.getElem?_eq_none hge]

theorem byteAt_append_left {a b : List Byte} {i : Nat} (h : i < a.length) : byteAt (a ++ b) i = byteAt a i := by
  rw [byteAt, byteAt, List.getD_append _ _ _ _ h]

theorem byteAt_append_right {a b : List Byte} {i : Nat} (h : a.length ≤ i) :
    byteAt (a ++ b) i = byteAt b (i - a.length) := by
  rw [byteAt, byteAt, List.getD_append_right _ _ _ _ h]

theorem noticeBytes_layout (n : NoticeUnit) : (noticeBytes n).length = 9
    ∧ (noticeBytes n).take 4 = [n.repeatInterval,
      match n.offer with | none => 0xFF | some o => byteOf o.node,
      match n.offer with | none => 0 | some o => if o.state = .notSent then 1 else 2, byteOf n.stack.length]
    ∧ (∀ i, i < 4 → byteAt (noticeBytes n) (4 + i)
      = match n.stack.reverse[i]? with | none => 0 | some l => byteOf l)
    ∧ byteAt (noticeBytes n) 8 = byteOf n.floor := by
  have hlen := stackBytes_length n.stack
  refine ⟨by simp [noticeBytes, hlen], ?_, fun i hi => ?_, ?_⟩
  · rw [noticeBytes, List.append_assoc]
    cases n.offer with
    | none => rfl
    | some o =>
      obtain ⟨k, st⟩ := o
      cases st <;> rfl
  · rw [noticeBytes, byteAt_append_left (by simp [hlen]; omega), byteAt_append_right (by simp),
      ← byteAt_stackBytes n.stack hi]
    simp
  · rw [noticeBytes, byteAt_append_right (by simp [hlen])]
    simp [hlen, byteAt]

theorem homeCode_eq (home : Option Seg) :
    homeCode home = match home with | none => 0 | some x => if x = .a then 1 else 2 := by
  rcases home with _ | x
  · rfl
  · exact segCode_eq x

/-! ## The object numbers of the tables (R149) -/

theorem halfOfNat_toNat {n : Nat} (h : n < 65536) : (BitVec.ofNat 16 n).toNat = n := Nat.mod_eq_of_lt h

theorem tableObjects_toNat : (∀ n : EntryNo, (entryObject n).toNat = 0x0100 + n)
    ∧ (∀ n : RecordNo, (descriptorObject n).toNat = 0x0200 + n)
    ∧ (∀ n : RecordNo, (recordDataObject n).toNat = 0x0300 + n)
    ∧ (∀ n : StationNo, (stationObject n).toNat = 0x0401 + n)
    ∧ (∀ n : NodeNo, (nodeObject n).toNat = 0x0500 + n)
    ∧ ∀ x, segmentObject x = if x = .a then 0x0003 else 0x0004 :=
  ⟨fun n => halfOfNat_toNat (by omega), fun n => halfOfNat_toNat (by omega), fun n => halfOfNat_toNat (by omega),
    fun n => halfOfNat_toNat (by omega), fun n => halfOfNat_toNat (by omega), fun x => by cases x <;> rfl⟩

/-! ## The writable bytes of a steering entry (R175) -/

theorem keyOf_eq_some {b : Byte} {k : StationKey} : keyOf b = some k ↔ k.code = b := by
  constructor
  · intro h
    unfold keyOf at h
    split at h
    · next hb =>
      cases h
      exact hb.symm
    · obtain ⟨n, hn, rfl⟩ := Option.map_eq_some_iff.1 h
      exact (eq_byteOf_of_indexOf hn).symm
  · rintro rfl
    cases k with
    | any => rfl
    | exact n =>
      have hff : byteOf n ≠ 0xFF := by revert n; decide
      rw [StationKey.code, keyOf, if_neg hff, indexOf_byteOf n (by decide)]
      rfl

theorem functionsOf_eq_some {b : Byte} {f : FunctionSet} : functionsOf b = some f ↔ f.code = b := by
  constructor
  · intro h
    unfold functionsOf at h
    split at h
    · cases h
    · next hb =>
      cases h
      revert b
      decide
  · rintro rfl
    obtain ⟨r, w, x, p⟩ := f
    revert r w x p
    decide

theorem actionOf_eq_some {act rec : Byte} {a : Action} :
    actionOf act rec = some a ↔ a.codes = [act, if act = 0 then 0xFF else rec] := by
  constructor
  · intro h
    unfold actionOf at h
    split at h
    · next h0 =>
      subst h0
      cases h
      rfl
    · next h0 =>
      rw [if_neg h0]
      split at h
      · next h1 =>
        obtain ⟨r, hr, rfl⟩ := Option.map_eq_some_iff.1 h
        rw [h1, eq_byteOf_of_indexOf hr]
        rfl
      · split at h
        · next h2 =>
          obtain ⟨r, hr, rfl⟩ := Option.map_eq_some_iff.1 h
          rw [h2, eq_byteOf_of_indexOf hr]
          rfl
        · split at h
          · next h3 =>
            obtain ⟨r, hr, rfl⟩ := Option.map_eq_some_iff.1 h
            rw [h3, eq_byteOf_of_indexOf hr]
            rfl
          · cases h
  · intro h
    have hindex (r : RecordNo) : indexOf 48 (byteOf r) = some r := indexOf_byteOf r (by decide)
    cases a with
    | forward =>
      obtain ⟨rfl, -⟩ := List.cons.inj h
      rfl
    | answer r =>
      obtain ⟨rfl, hrec⟩ := List.cons.inj h
      obtain ⟨rfl, -⟩ := List.cons.inj hrec
      exact congrArg (Option.map Action.answer) (hindex r)
    | stream r =>
      obtain ⟨rfl, hrec⟩ := List.cons.inj h
      obtain ⟨rfl, -⟩ := List.cons.inj hrec
      exact congrArg (Option.map Action.stream) (hindex r)
    | mirror r =>
      obtain ⟨rfl, hrec⟩ := List.cons.inj h
      obtain ⟨rfl, -⟩ := List.cons.inj hrec
      exact congrArg (Option.map Action.mirror) (hindex r)

theorem fallbackOf_eq_some {b : Byte} {x : Fallback} : fallbackOf b = some x ↔ x.code = b := by
  revert b
  cases x <;> decide

theorem segOf_eq_some {b : Byte} {x : Seg} : segOf b = some x ↔ segCode x = b := by
  revert b
  cases x <;> decide

/-- The five flags that a flags byte in range carries (R175). -/
theorem Entry.flagBits_eq_iff {e : Entry} {b : Byte} : e.flagBits = b ↔ b.toNat ≤ 31 ∧ e.valid = b.getLsbD 0
    ∧ e.hold = b.getLsbD 1 ∧ e.barred = b.getLsbD 2 ∧ e.holdAfterDone = b.getLsbD 3
    ∧ e.holdOnShort = b.getLsbD 4 := by
  unfold Entry.flagBits
  constructor
  · generalize e.valid = v
    generalize e.hold = h
    generalize e.barred = r
    generalize e.holdAfterDone = d
    generalize e.holdOnShort = s
    rintro rfl
    revert v h r d s
    decide
  · rintro ⟨hb, hv, hh, hr, hd, hs⟩
    rw [hv, hh, hr, hd, hs]
    clear hv hh hr hd hs
    revert b
    decide

/-- An entry write gives an entry exactly when its bytes are the entry's codes, but for the record byte of FORWARD, and
its kept fields have their power-on values (R16, R175). -/
theorem entryOf_eq_some {p : List Byte} {e : Entry} : entryOf p = some e ↔
    (e.flagBits = byteAt p 0 ∧ e.key.code = byteAt p 1 ∧ e.functions.code = byteAt p 2
      ∧ e.objectLow = halfOf (byteAt p 3) (byteAt p 4) ∧ e.objectHigh = halfOf (byteAt p 5) (byteAt p 6)
      ∧ e.action.codes = [byteAt p 7, if byteAt p 7 = 0 then 0xFF else byteAt p 8]
      ∧ e.exhaustedAction.code = byteAt p 9 ∧ segCode e.broadcast = byteAt p 10 ∧ e.interval = byteAt p 11)
    ∧ e = { e with hits := 0, phase := 0, inFlight := 0, holder := none } := by
  rw [Entry.flagBits_eq_iff, ← keyOf_eq_some, ← functionsOf_eq_some, ← actionOf_eq_some, ← fallbackOf_eq_some,
    ← segOf_eq_some]
  constructor
  · intro h
    unfold entryOf at h
    dsimp only at h
    split at h
    · cases h
    · next hflags =>
      simp only [Option.bind_eq_bind, Option.bind_eq_some_iff] at h
      obtain ⟨key, hkey, functions, hfunctions, action, haction, exhausted, hexhausted, seg, hseg, he⟩ := h
      cases he
      exact ⟨⟨⟨by omega, rfl, rfl, rfl, rfl, rfl⟩, hkey, hfunctions, rfl, rfl, haction, hexhausted, hseg, rfl⟩, rfl⟩
  · rintro ⟨⟨⟨hflags, hv, hh, hb, hd, hs⟩, hkey, hfunctions, hlow, hhigh, haction, hexhausted, hseg, hinterval⟩, hkept⟩
    rw [hkept, entryOf]
    simp only [hkey, hfunctions, haction, hexhausted, hseg, ← hlow, ← hhigh, ← hinterval, ← hv, ← hh, ← hb, ← hd, ← hs]
    exact if_neg (by omega)

theorem entryBytes_length (e : Entry) : (entryBytes e).length = 20 := by
  cases h : e.action <;> simp [entryBytes, be16, be32, Action.codes, h]

theorem entryBytes_take {e : Entry} {act rec : Byte} (h : e.action.codes = [act, rec]) :
    (entryBytes e).take 12 = [e.flagBits, e.key.code, e.functions.code] ++ be16 e.objectLow ++ be16 e.objectHigh
      ++ [act, rec] ++ [e.exhaustedAction.code, segCode e.broadcast, e.interval] := by
  rw [entryBytes, h]
  rfl

/-- The action and record bytes, of which FORWARD's second is FFh (R2, R175). -/
theorem Action.exists_codes (a : Action) : ∃ act rec, a.codes = [act, if act = 0 then 0xFF else rec] := by
  cases a with
  | forward => exact ⟨0, 0, rfl⟩
  | answer r => exact ⟨1, byteOf r, rfl⟩
  | stream r => exact ⟨2, byteOf r, rfl⟩
  | mirror r => exact ⟨3, byteOf r, rfl⟩

theorem entryOf_entryBytes (e : Entry) :
    entryOf ((entryBytes e).take 12) = some { e with hits := 0, phase := 0, inFlight := 0, holder := none } := by
  obtain ⟨act, rec, hcodes⟩ := e.action.exists_codes
  rw [entryBytes_take hcodes, entryOf_eq_some]
  refine ⟨⟨rfl, rfl, rfl, (halfOf_hiByte_loByte _).symm, (halfOf_hiByte_loByte _).symm, ?_, rfl, rfl, rfl⟩, rfl⟩
  refine hcodes.trans ?_
  show [act, if act = 0 then 0xFF else rec] = [act, if act = 0 then 0xFF else if act = 0 then 0xFF else rec]
  split <;> rfl

theorem entryBytes_entryOf {p : List Byte} {e : Entry} (hl : p.length = 12) (h : entryOf p = some e) :
    (entryBytes e).take 12 = if byteAt p 7 = 0 then p.set 8 0xFF else p := by
  obtain ⟨⟨hflags, hkey, hfunctions, hlow, hhigh, haction, hexhausted, hseg, hinterval⟩, -⟩ := entryOf_eq_some.1 h
  have hp : p = [byteAt p 0, byteAt p 1, byteAt p 2, byteAt p 3, byteAt p 4, byteAt p 5, byteAt p 6, byteAt p 7,
    byteAt p 8, byteAt p 9, byteAt p 10, byteAt p 11] := (ofFn_byteAt hl).symm
  rw [entryBytes_take haction, hflags, hkey, hfunctions, hlow, hhigh, be16_halfOf, be16_halfOf, hexhausted, hseg,
    hinterval]
  split
  · conv_rhs => rw [hp]
    rfl
  · exact hp.symm

/-! ## The writable bytes of a record descriptor (R176) -/

/-- The bytes of a descriptor write that are stored: those of its kind's fields (R56, R176). -/
def storedDescriptor (p : List Byte) : List Byte :=
  if byteAt p 0 = 0 then [0, 0, 0, 0, 0, 0, 0, 0]
  else if byteAt p 0 = 1 then [byteAt p 0, byteAt p 1, byteAt p 2, byteAt p 3, byteAt p 4, 0, 0, 0]
  else if byteAt p 0 = 2 then [byteAt p 0, byteAt p 1, byteAt p 2, byteAt p 3, byteAt p 4, byteAt p 5, 0, 0]
  else [byteAt p 0, byteAt p 1, byteAt p 2, byteAt p 3, byteAt p 4, 0, byteAt p 6, byteAt p 7]

theorem storedDescriptor_eq {p : List Byte} (hl : p.length = 8) : storedDescriptor p
    = if byteAt p 0 = 0 then [0, 0, 0, 0, 0, 0, 0, 0]
      else if byteAt p 0 = 1 then p.take 5 ++ [0, 0, 0]
      else if byteAt p 0 = 2 then p.take 6 ++ [0, 0] else p.take 5 ++ [0] ++ p.drop 6 := by
  have hp : p = [byteAt p 0, byteAt p 1, byteAt p 2, byteAt p 3, byteAt p 4, byteAt p 5, byteAt p 6, byteAt p 7] :=
    (ofFn_byteAt hl).symm
  have htake (n : Nat) := congrArg (List.take n) hp
  have hdrop := congrArg (List.drop 6) hp
  rw [htake 5, htake 6, hdrop]
  rfl

/-- The four descriptors that a write can give (R55, R56). -/
theorem descriptorOf_cases {p : List Byte} {r : Record} (h : descriptorOf p = some r) :
    byteAt p 0 = 0 ∧ r = {}
    ∨ byteAt p 0 = 1 ∧ r = {
        kind := .fixed, base := (halfOf (byteAt p 1) (byteAt p 2)).toNat
        length := (halfOf (byteAt p 3) (byteAt p 4)).toNat }
    ∨ byteAt p 0 = 2 ∧ r = {
        kind := .stream, base := (halfOf (byteAt p 1) (byteAt p 2)).toNat
        total := (halfOf (byteAt p 3) (byteAt p 4)).toNat, chunk := (byteAt p 5).toNat
        remaining := (halfOf (byteAt p 3) (byteAt p 4)).toNat }
    ∨ byteAt p 0 = 3 ∧ r = {
        kind := .mirror, base := (halfOf (byteAt p 1) (byteAt p 2)).toNat
        length := (halfOf (byteAt p 3) (byteAt p 4)).toNat, maxAge := halfOf (byteAt p 6) (byteAt p 7) } := by
  simp only [descriptorOf] at h
  split_ifs at h with h0 _ h1 _ h2 _ h3 _ <;> cases h
  · exact .inl ⟨h0, rfl⟩
  · exact .inr (.inl ⟨h1, rfl⟩)
  · exact .inr (.inr (.inl ⟨h2, rfl⟩))
  · exact .inr (.inr (.inr ⟨h3, rfl⟩))

/-- A kind byte other than those of NONE, FIXED and STREAM (R55, R176). -/
theorem descriptorOf_of_other {p : List Byte} (h0 : byteAt p 0 ≠ 0) (h1 : byteAt p 0 ≠ 1) (h2 : byteAt p 0 ≠ 2) :
    descriptorOf p = if Config.storeSize ≤ (halfOf (byteAt p 1) (byteAt p 2)).toNat then none
      else if byteAt p 0 = 3 then
        if 1 ≤ (halfOf (byteAt p 3) (byteAt p 4)).toNat ∧ (halfOf (byteAt p 3) (byteAt p 4)).toNat ≤ 240 then
          some {
            kind := .mirror, base := (halfOf (byteAt p 1) (byteAt p 2)).toNat
            length := (halfOf (byteAt p 3) (byteAt p 4)).toNat, maxAge := halfOf (byteAt p 6) (byteAt p 7) }
        else none
      else none := by
  simp only [descriptorOf, if_neg h0, if_neg h1, if_neg h2]

/-- The bytes that are not stored play no part in a descriptor write. -/
theorem descriptorOf_storedDescriptor (p : List Byte) : descriptorOf (storedDescriptor p) = descriptorOf p := by
  unfold storedDescriptor
  split
  · next h0 =>
    simp only [descriptorOf, h0]
    rfl
  · next h0 =>
    split
    · next h1 =>
      simp only [descriptorOf, h1]
      rfl
    · next h1 =>
      split
      · next h2 =>
        simp only [descriptorOf, h2]
        rfl
      · next h2 =>
        rw [descriptorOf_of_other h0 h1 h2]
        exact descriptorOf_of_other (p := [byteAt p 0, _, _, _, _, _, _, _]) h0 h1 h2

/-- A descriptor is read as it was written, but for the bytes that are not stored. -/
theorem recordBytes_descriptorOf {p : List Byte} {r : Record} (h : descriptorOf p = some r) :
    (recordBytes r).take 8 = storedDescriptor p := by
  have hbytes (r : Record) : (recordBytes r).take 8 = [r.kind.code] ++ be16 (halfNat r.base)
      ++ be16 (halfNat r.size) ++ [byteOf r.chunk] ++ be16 r.maxAge := rfl
  have hfield (hi lo : Byte) : be16 (halfNat (halfOf hi lo).toNat) = [hi, lo] := by
    rw [halfNat_toNat, be16_halfOf]
  rw [hbytes, storedDescriptor]
  rcases descriptorOf_cases h with ⟨hkind, rfl⟩ | ⟨hkind, rfl⟩ | ⟨hkind, rfl⟩ | ⟨hkind, rfl⟩
  · rw [hkind]
    rfl
  · simp only [Record.size, hfield, hkind]
    rfl
  · simp only [Record.size, hfield, byteOf_toNat, hkind]
    rfl
  · simp only [Record.size, hfield, be16_halfOf, hkind]
    rfl

/-- Settles O54: the layouts object by object, the object numbers, and the two round trips. -/
theorem tableLayoutsRoundTrip : Obligations.TableLayoutsRoundTrip := by
  unfold Obligations.TableLayoutsRoundTrip
  refine ⟨⟨be16_eq, be32_eq, fun m => ?_, fun g => rfl, noticeBytes_layout, fun s => rfl, fun e => ?_, fun r => ?_,
    fun r => ?_, fun n => ?_⟩, tableObjects_toNat, fun e => ⟨entryBytes_length e, entryOf_entryBytes e⟩,
    fun p e => entryBytes_entryOf, fun p r h => ⟨rfl, ?_⟩, fun p r hl h => ?_⟩
  · rw [generalBytes, Fallback.code_eq]
  · rw [entryBytes, Entry.flagBits_eq, FunctionSet.code_eq, Fallback.code_eq, segCode_eq, boolCode_eq]
    rfl
  · rw [recordBytes, MirrorState.code_eq]
    rfl
  · rw [stationBytes, homeCode_eq]
    rfl
  · rw [nodeBytes, boolCode_eq, boolCode_eq]
  · rw [recordBytes_descriptorOf h, descriptorOf_storedDescriptor, h]
  · rw [recordBytes_descriptorOf h, storedDescriptor_eq hl]

end Sys2Proof.Machine

/-! # PROOFS. Sealed frames, and the checks of a received request (O15). -/

namespace Sys2Proof.Machine

/-! ## Sealed frames and their CRC (R167, R168) -/

theorem sealFrame_length (body : List Byte) : (sealFrame body).length = body.length + 3 := by
  simp [sealFrame, be16]

theorem crcPasses_iff {bs : List Byte} :
    crcPasses bs = true ↔ bs.drop (bs.length - 2) = be16 (crc ((bs.drop 1).take (bs.length - 3))) := by
  rw [crcPasses, decide_eq_true_iff]

/-- The CRC that a frame is sealed with is the one that the check computes again. -/
theorem crcPasses_sealFrame (body : List Byte) : crcPasses (sealFrame body) = true := by
  have hbody : ((sealFrame body).drop 1).take body.length = body := List.take_left
  have htail : (sealFrame body).drop (body.length + 1) = be16 (crc body) := List.drop_left
  rw [crcPasses_iff, sealFrame_length, show body.length + 3 - 2 = body.length + 1 by omega, Nat.add_sub_cancel, hbody,
    htail]

/-! ## The four checks in their order (R172) -/

section Checks

variable {bs : List Byte} {n : Nat}

theorem checkRequest_of_badSize (h : n < 13 ∨ 253 < n) : checkRequest bs n = .error linkLength := if_pos h

/-- A frame of a possible size passes the first check. -/
theorem not_badSize (hmin : 13 ≤ n) (hmax : n ≤ 253) : ¬ (n < 13 ∨ Config.maxRequestFrame < n) :=
  not_or.2 ⟨Nat.not_lt.2 hmin, Nat.not_lt.2 hmax⟩

/-- A frame of the length that its length byte gives passes the third check. -/
theorem not_badLength (hlen : (byteAt bs 10).toNat ≤ 240) (hcount : n = 13 + (byteAt bs 10).toNat) :
    ¬ (240 < (byteAt bs 10).toNat ∨ n ≠ 13 + (byteAt bs 10).toNat) :=
  not_or.2 ⟨Nat.not_lt.2 hlen, not_not.2 hcount⟩

variable (hmin : 13 ≤ n) (hmax : n ≤ 253)
include hmin hmax

theorem checkRequest_of_badCrc (hcrc : crcPasses bs = false) : checkRequest bs n = .error linkCrc := by
  rw [checkRequest, if_neg (not_badSize hmin hmax), if_pos (by simp [hcrc])]

variable (hcrc : crcPasses bs = true)
include hcrc

theorem checkRequest_of_badLength (h : 240 < (byteAt bs 10).toNat ∨ n ≠ 13 + (byteAt bs 10).toNat) :
    checkRequest bs n = .error linkLength := by
  rw [checkRequest, if_neg (not_badSize hmin hmax), if_neg (not_not.2 hcrc), if_pos h]

variable (hlen : (byteAt bs 10).toNat ≤ 240) (hcount : n = 13 + (byteAt bs 10).toNat)
include hlen hcount

theorem checkRequest_of_badFormat (h : byteAt bs 0 ≠ startCode ∨ byteAt bs 1 ≠ 0x01 ∨ 127 < (byteAt bs 2).toNat
    ∨ 31 < (byteAt bs 4).toNat) : checkRequest bs n = .error linkFormat := by
  rw [checkRequest, if_neg (not_badSize hmin hmax), if_neg (not_not.2 hcrc),
    if_neg (not_badLength hlen hcount), if_pos h]

theorem checkRequest_of_checked (hstart : byteAt bs 0 = startCode) (hkind : byteAt bs 1 = 0x01)
    (hstation : (byteAt bs 2).toNat ≤ 127) (htag : (byteAt bs 4).toNat ≤ 31) :
    checkRequest bs n = .ok (requestOf bs) := by
  rw [checkRequest, if_neg (not_badSize hmin hmax), if_neg (not_not.2 hcrc),
    if_neg (not_badLength hlen hcount),
    if_neg (not_or.2 ⟨not_not.2 hstart, not_or.2 ⟨not_not.2 hkind, not_or.2 ⟨Nat.not_lt.2 hstation,
      Nat.not_lt.2 htag⟩⟩⟩)]

end Checks

/-- The end of a frame in progress: the receiver is READY and the frame judged by its checks (R167, R172). -/
theorem State.upstreamFrameEnd_of_receiving {s : State} (h : s.upRx.state = .receiving) :
    s.upstreamFrameEnd = s.readyRx.judgeUpstream (checkRequest s.upRx.bytes s.upRx.count) := by
  simp only [upstreamFrameEnd, h]

theorem exec_upstreamFrameEnd {s : State} (h : s.resetAsserted = false) :
    exec .upstreamFrameEnd s = .next s.upstreamFrameEnd.start := event_of_released h

/-- Settles O15, check by check; a frame that fails one is counted and its class raised. -/
theorem framesFailingTheChecksAreDropped : Obligations.FramesFailingTheChecksAreDropped := by
  unfold Obligations.FramesFailingTheChecksAreDropped
  refine ⟨fun bs n => ⟨checkRequest_of_badSize, checkRequest_of_badCrc, fun hmin hmax hcrc =>
    ⟨checkRequest_of_badLength hmin hmax hcrc, fun hlen hcount =>
      ⟨checkRequest_of_badFormat hmin hmax hcrc hlen hcount,
        checkRequest_of_checked hmin hmax hcrc hlen hcount⟩⟩⟩, fun s d hr hrx hfail => ⟨_, ?_, rfl⟩⟩
  rw [exec_upstreamFrameEnd hr, State.upstreamFrameEnd_of_receiving hrx, hfail]
  rfl

end Sys2Proof.Machine

/-! # PROOFS. Response frames, composed and read back (O53). -/

namespace Sys2Proof.Machine

/-! ## Well-formed responses (R82, R168, R170) -/

theorem checkResponse_eq_some {bs : List Byte} {n : Nat} {r : Response} : checkResponse bs n = some r ↔
    byteAt bs 0 = startCode ∧ byteAt bs 1 = 0x02 ∧ n = 9 + (byteAt bs 6).toNat ∧ (byteAt bs 6).toNat ≤ 240
      ∧ crcPasses bs = true
      ∧ r = { station := byteAt bs 2, tag := byteAt bs 3, status := byteAt bs 4
              payload := (bs.drop 7).take (byteAt bs 6).toNat } := by
  rw [checkResponse, Option.ite_none_right_eq_some, Option.some.injEq, eq_comm (b := r)]
  simp only [and_assoc]

/-! ## A response frame as composed (R170) -/

theorem toNat_byteOf {n : Nat} (h : n < 256) : (byteOf n).toNat = n := Nat.mod_eq_of_lt h

section Response

variable (station : Station) (tag : Tag) (status reason : Byte) (payload : List Byte)

theorem responseFrame_length : (responseFrame station tag status reason payload).length = 9 + payload.length := by
  rw [responseFrame, sealFrame_length, List.length_append, List.length_cons]
  simp only [List.length_cons, List.length_nil]
  omega

/-- After the seven bytes of the header come the payload and the CRC. -/
theorem responseFrame_payload :
    ((responseFrame station tag status reason payload).drop 7).take payload.length = payload := List.take_left

theorem checkResponse_responseFrame (hp : payload.length ≤ 240) :
    checkResponse (responseFrame station tag status reason payload) (9 + payload.length)
      = some { station := byteOf station, tag := byteOf tag, status := status, payload := payload } := by
  have hlen : (byteAt (responseFrame station tag status reason payload) 6).toNat = payload.length :=
    toNat_byteOf (by omega)
  refine checkResponse_eq_some.2 ⟨rfl, rfl, by rw [hlen], hlen ▸ hp, crcPasses_sealFrame _, ?_⟩
  rw [hlen, responseFrame_payload]
  rfl

end Response

/-- Settles O53: the check is a conjunction of what a well-formed response holds, and a composed frame has it all. -/
theorem responseFramesRoundTrip : Obligations.ResponseFramesRoundTrip := by
  unfold Obligations.ResponseFramesRoundTrip
  refine ⟨fun bs n r => ?_, fun station tag status reason payload hp =>
    ⟨responseFrame_length station tag status reason payload,
      checkResponse_responseFrame station tag status reason payload hp⟩⟩
  rw [← crcPasses_iff]
  exact checkResponse_eq_some

end Sys2Proof.Machine

/-! # PROOFS. The receivers, byte by byte and at an idle gap (O48). -/

namespace Sys2Proof.Machine

/-! ## A byte, by the receiver's state (R167) -/

namespace Receiver

variable {rx : Receiver} {largest : Nat} {b : Byte}

theorem byte_of_waitIdle (h : rx.state = .waitIdle) : rx.byte largest b = rx := by
  simp only [byte, h]

theorem byte_of_ready (h : rx.state = .ready) :
    rx.byte largest b = { state := .receiving, bytes := [b], count := 1, lost := false } := by
  simp only [byte, h]

theorem byte_of_room (h : rx.state = .receiving) (hroom : rx.bytes.length < largest) :
    rx.byte largest b = { rx with bytes := rx.bytes ++ [b], count := rx.count + 1 } := by
  simp only [byte, h, if_pos hroom]

theorem byte_of_full (h : rx.state = .receiving) (hfull : largest ≤ rx.bytes.length) :
    rx.byte largest b = { rx with count := rx.count + 1 } := by
  simp only [byte, h, if_neg (Nat.not_lt.2 hfull)]

end Receiver

/-! ## The receiver of a line -/

/-- What a receiver is to its line: `put` replaces it in the state, a byte that the line takes goes to it alone, and an
idle gap is the line's frame end, which leaves it READY and, with no frame to judge, changes nothing else. -/
structure State.HasReceiver (s : State) (l : Line) (rx : Receiver) (largest : Nat) (frameEnd : Instr)
    (put : Receiver → State) : Prop where
  put_self        : put rx = s
  byteArrival_eq  : (∀ x, l = .segment x → (s.seg x).engine ≠ .sending) →
    ∀ b, s.byteArrival b l = put (rx.byte largest b)
  frameEnd_eq     : exec frameEnd s = exec (.receiverIdleGap l) s
  gap_of_waitIdle : rx.state = .waitIdle → s.receiverIdleGap l = put Receiver.idle
  gap_of_ready    : rx.state = .ready → s.receiverIdleGap l = s
  gap_of_lost     : rx.state = .receiving → ∀ x, l = .segment x → rx.lost = true →
    s.receiverIdleGap l = put Receiver.idle
  gap_upRx        : rx.state = .receiving → l = .upstream → (s.receiverIdleGap l).upRx = Receiver.idle
  gap_segRx       : rx.state = .receiving → ∀ x, l = .segment x → ((s.receiverIdleGap l).seg x).rx = Receiver.idle

namespace State

theorem upstream_hasReceiver (s : State) :
    s.HasReceiver .upstream s.upRx 253 .upstreamFrameEnd (fun r => { s with upRx := r }) where
  put_self           := rfl
  byteArrival_eq _ _ := rfl
  frameEnd_eq        := rfl
  gap_of_waitIdle    := upstreamFrameEnd_of_waitIdle
  gap_of_ready       := upstreamFrameEnd_of_ready
  gap_of_lost        := nofun
  gap_upRx h _       := s.upstreamFrameEnd_upRx h
  gap_segRx          := nofun

/-- While its engine is SENDING a segment's receiver takes no byte (R82). -/
theorem byteArrival_of_sending {s : State} {x : Seg} (b : Byte) (h : (s.seg x).engine = .sending) :
    s.byteArrival b (.segment x) = s :=
  s.updSeg_self (f := fun g => g.byte b) (by rw [Segment.byte, if_pos h])

theorem byteArrival_of_listening {s : State} {x : Seg} (b : Byte) (h : (s.seg x).engine ≠ .sending) :
    s.byteArrival b (.segment x) = s.updSeg x (fun g => { g with rx := (s.seg x).rx.byte 249 b }) :=
  s.updSeg_congr (f := fun g => g.byte b) (by rw [Segment.byte, if_neg h])

theorem segment_hasReceiver (s : State) (x : Seg) :
    s.HasReceiver (.segment x) (s.seg x).rx 249 (.segmentFrameRxEnd x)
      (fun r => s.updSeg x (fun g => { g with rx := r })) where
  put_self           := s.updSeg_self rfl
  byteArrival_eq h b := byteArrival_of_listening b (h x rfl)
  frameEnd_eq        := rfl
  gap_of_waitIdle    := segmentFrameRxEnd_of_waitIdle
  gap_of_ready       := segmentFrameRxEnd_of_ready
  gap_of_lost h _ _ hlost := segmentFrameRxEnd_of_discarded h (.inl hlost)
  gap_upRx           := nofun
  gap_segRx h y hy   := by
    cases hy
    exact s.segmentFrameRxEnd_rx h

end State

section Events

variable {s : State} (h : s.resetAsserted = false)
include h

theorem exec_byteArrival (l : Line) (b : Byte) : exec (.byteArrival l b) s = .next (s.byteArrival b l) :=
  quietEvent_of_released (f := fun s => s.byteArrival b l) h

theorem exec_receiverIdleGap (l : Line) : exec (.receiverIdleGap l) s = .next (s.receiverIdleGap l).start :=
  event_of_released (f := fun s => s.receiverIdleGap l) h

end Events

/-- Settles O48: one argument for the receiver of any line, by its state. -/
theorem receiversFollowTheirStates : Obligations.ReceiversFollowTheirStates := by
  unfold Obligations.ReceiversFollowTheirStates
  intro s l b rx largest frameEnd put hr hline
  have H : s.HasReceiver l rx largest frameEnd put := by
    rcases hline with ⟨rfl, rfl, rfl, rfl, rfl⟩ | ⟨x, rfl, rfl, rfl, rfl, rfl⟩
    · exact s.upstream_hasReceiver
    · exact s.segment_hasReceiver x
  rw [H.frameEnd_eq, exec_byteArrival hr, exec_receiverIdleGap hr]
  refine ⟨?_, fun htakes => ?_, fun hrx => ?_, fun hrx => ?_, fun hrx => ⟨⟨_, rfl, rfl, fun hl => ?_, fun x hl => ?_⟩,
    fun x hl hlost => ?_⟩⟩
  · rintro x rfl hsending
    rw [State.byteArrival_of_sending b hsending]
  · rw [H.byteArrival_eq htakes]
    refine ⟨fun hrx => ?_, fun hrx => ?_, fun hrx hroom => ?_, fun hrx hfull => ?_⟩
    · rw [Receiver.byte_of_waitIdle hrx, H.put_self]
    · rw [Receiver.byte_of_ready hrx]
    · rw [Receiver.byte_of_room hrx hroom]
    · rw [Receiver.byte_of_full hrx hfull]
  · rw [H.gap_of_waitIdle hrx]
    rfl
  · rw [H.gap_of_ready hrx]
  · rw [State.start_upRx, H.gap_upRx hrx hl]
    rfl
  · rw [State.start_seg, H.gap_segRx hrx x hl]
    rfl
  · rw [H.gap_of_lost hrx x hl hlost]
    rfl

end Sys2Proof.Machine

/-! # PROOFS. A request frame that arrives byte by byte (O52). -/

namespace Sys2Proof.Machine

/-! ## A request frame as composed (R169) -/

section RequestFrame

variable (q : Request)

theorem requestFrame_length : (requestFrame q).length = 13 + q.payload.length := by
  rw [requestFrame, sealFrame_length, requestBody, List.length_append]
  simp only [be16, List.length_append, List.length_cons, List.length_nil]
  omega

/-- After the eleven bytes of the header come the payload and the CRC. -/
theorem requestFrame_payload : ((requestFrame q).drop 11).take q.payload.length = q.payload := List.take_left

theorem requestFrame_stationByte : (byteAt (requestFrame q) 2).toNat = q.station := toNat_byteOf (by omega)

theorem requestFrame_tagByte : (byteAt (requestFrame q) 4).toNat = q.tag := toNat_byteOf (by omega)

variable {q} (hp : q.payload.length ≤ 240)
include hp

theorem requestFrame_lengthByte : (byteAt (requestFrame q) 10).toNat = q.payload.length := toNat_byteOf (by omega)

/-- The fields of a composed frame are the request's. -/
theorem requestOf_requestFrame : requestOf (requestFrame q) = q := by
  have hstation : Fin.ofNat 128 (byteAt (requestFrame q) 2).toNat = q.station := by
    rw [requestFrame_stationByte]
    exact Fin.ext (Nat.mod_eq_of_lt q.station.isLt)
  have htag : Fin.ofNat 32 (byteAt (requestFrame q) 4).toNat = q.tag := by
    rw [requestFrame_tagByte]
    exact Fin.ext (Nat.mod_eq_of_lt q.tag.isLt)
  have hobject : halfOf (byteAt (requestFrame q) 5) (byteAt (requestFrame q) 6) = q.object := halfOf_hiByte_loByte _
  have hposition : halfOf (byteAt (requestFrame q) 7) (byteAt (requestFrame q) 8) = q.position :=
    halfOf_hiByte_loByte _
  rw [requestOf, hstation, htag, hobject, hposition, requestFrame_lengthByte hp, requestFrame_payload]
  rfl

/-- A composed frame passes the four checks (R172). -/
theorem checkRequest_requestFrame : checkRequest (requestFrame q) (requestFrame q).length = .ok q := by
  have hlen := requestFrame_lengthByte hp
  have hcount := requestFrame_length q
  have hstation := requestFrame_stationByte q
  have htag := requestFrame_tagByte q
  have hcrc : crcPasses (requestFrame q) = true := crcPasses_sealFrame _
  rw [checkRequest_of_checked (by omega) (by omega) hcrc (by omega) (by omega) rfl rfl (by omega)
    (by omega), requestOf_requestFrame hp]

end RequestFrame

/-! ## The bytes of a whole frame at a receiver (R167) -/

namespace Receiver

variable {largest : Nat}

theorem foldl_byte_of_receiving (bs : List Byte) {rx : Receiver} (h : rx.state = .receiving)
    (hroom : rx.bytes.length + bs.length ≤ largest) : bs.foldl (Receiver.byte · largest) rx
      = { rx with bytes := rx.bytes ++ bs, count := rx.count + bs.length } := by
  induction bs generalizing rx with
  | nil => simp
  | cons b bs ih =>
    rw [List.length_cons] at hroom
    rw [List.foldl_cons, byte_of_room h (by omega),
      ih (rx := { rx with bytes := rx.bytes ++ [b], count := rx.count + 1 }) h (by simp; omega)]
    simp only [List.append_assoc, List.singleton_append, List.length_cons, Nat.add_assoc, Nat.add_comm 1]

/-- A READY receiver takes a frame that is not too large, byte by byte. -/
theorem foldl_byte_of_ready {bs : List Byte} {rx : Receiver} (h : rx.state = .ready) (hne : bs ≠ [])
    (hroom : bs.length ≤ largest) : bs.foldl (Receiver.byte · largest) rx
      = { state := .receiving, bytes := bs, count := bs.length, lost := false } := by
  cases bs with
  | nil => exact absurd rfl hne
  | cons b bs =>
    rw [List.length_cons] at hroom
    rw [List.foldl_cons, byte_of_ready h,
      foldl_byte_of_receiving bs rfl (by rw [List.length_singleton]; omega), List.length_cons, Nat.add_comm 1]
    rfl

end Receiver

/-! ## Runs of the command queue -/

section Run

variable {M : Host.Core} {s t : M.State}

theorem run_succ_of_next (h : M.step s = .next t) (k : Nat) : M.run (k + 1) s = M.run k t := by
  simp only [Host.Core.run, h]

theorem run_one (s : M.State) : M.run 1 s = M.step s := by
  simp only [Host.Core.run]
  cases M.step s <;> rfl

end Run

theorem step_of_front {s : State} {c : Instr} {rest : List Instr} (h : s.pending = c :: rest) :
    step s = exec c { s with pending := rest } := by
  simp only [step, h]

/-- The bytes at the front of the queue go to the upstream receiver in turn, and nothing else changes. -/
theorem run_byteArrivals (bs : List Byte) (rest : List Instr) (n : Nat) {s : State} (h : s.resetAsserted = false) :
    Sys2Proof.core.run (bs.length + n) { s with pending := bs.map (Instr.byteArrival .upstream) ++ rest }
      = Sys2Proof.core.run n { s with pending := rest, upRx := bs.foldl (Receiver.byte · 253) s.upRx } := by
  induction bs generalizing s with
  | nil =>
    rw [List.length_nil, Nat.zero_add]
    rfl
  | cons b bs ih =>
    have hstep : step { s with pending := (b :: bs).map (Instr.byteArrival .upstream) ++ rest }
        = .next { s with
            pending := bs.map (Instr.byteArrival .upstream) ++ rest, upRx := s.upRx.byte 253 b } :=
      (step_of_front rfl).trans (exec_byteArrival
        (s := { s with pending := bs.map (Instr.byteArrival .upstream) ++ rest }) h .upstream b)
    rw [List.length_cons, Nat.add_right_comm]
    exact (run_succ_of_next hstep _).trans (ih (s := { s with upRx := s.upRx.byte 253 b }) h)

/-! ## The end of the frame (R172) -/

theorem exec_upstreamFrameEnd_of_requestFrame {s : State} {q : Request} (hr : s.resetAsserted = false)
    (hrx : s.upRx.state = .ready) (hp : q.payload.length ≤ 240) :
    exec .upstreamFrameEnd { s with upRx := {
        state := .receiving, bytes := requestFrame q, count := (requestFrame q).length, lost := false } }
      = requestEvent q s := by
  have hlistens : s.listens := ⟨hr, by simp [hrx]⟩
  rw [requestEvent_of_listens hlistens hp]
  exact exec_of_receives ⟨hr, rfl, checkRequest_requestFrame hp⟩

theorem run_arrivingFrame {s : State} {q : Request} (hr : s.resetAsserted = false) (hrx : s.upRx.state = .ready)
    (hp : q.payload.length ≤ 240) :
    Sys2Proof.core.run ((requestFrame q).length + 1) { s with
        pending := (requestFrame q).map (Instr.byteArrival .upstream) ++ [.upstreamFrameEnd] }
      = requestEvent q { s with pending := [] } := by
  have hroom : (requestFrame q).length ≤ 253 := by rw [requestFrame_length]; omega
  have hne : requestFrame q ≠ [] := List.cons_ne_nil _ _
  have hlast : step { s with pending := [.upstreamFrameEnd], upRx := {
        state := .receiving, bytes := requestFrame q, count := (requestFrame q).length, lost := false } }
      = requestEvent q { s with pending := [] } :=
    (step_of_front rfl).trans (exec_upstreamFrameEnd_of_requestFrame (s := { s with pending := [] }) hr hrx hp)
  rw [run_byteArrivals _ _ _ hr, Receiver.foldl_byte_of_ready hrx hne hroom]
  exact (run_one _).trans hlast

/-- Settles O52: the frame arrives byte by byte, passes its checks, and is the request that its row stands for. -/
theorem arrivingFrameIsItsRow : Obligations.ArrivingFrameIsItsRow := by
  unfold Obligations.ArrivingFrameIsItsRow
  intro s q hr hrx hp hpending
  have hrun := run_arrivingFrame hr hrx hp
  rw [← hpending, show (requestFrame q).length + 1 = s.pending.length by simp [hpending]] at hrun
  refine ⟨hrun, fun i hi => ?_⟩
  rw [exec_of_requestOfRow hi]
  exact hrun

end Sys2Proof.Machine

/-! # PROOFS. Steps: the front command is run, and every command completes (O50, O51). -/

namespace Sys2Proof.Machine

/-! ## The front of the command queue -/

theorem step_of_empty {s : State} (h : s.pending = []) : step s = .next s := by
  simp only [step, h]

/-- Settles O50: the state with the command taken off its front again is the state itself. -/
theorem stepRunsTheFrontCommand : Obligations.StepRunsTheFrontCommand := by
  unfold Obligations.StepRunsTheFrontCommand
  exact fun c s => step_of_front rfl

/-! ## What the operations leave: the commands that wait

No rule of the spec speaks of the queue, so no operation of the part touches it (log 3). -/

namespace State

variable (s : State)

/-! ## Engines and their queues (R79 to R95) -/

@[simp] theorem takeHead_pending (x : Seg) (q : List Tag) : (takeHead x q s).pending = s.pending := by
  induction q generalizing s with
  | nil => simp [takeHead]
  | cons t q ih =>
    simp only [takeHead]
    split
    · rw [ih]; simp
    · simp

@[simp] theorem dispatch_pending (x : Seg) : (s.dispatch x).pending = s.pending := by
  unfold dispatch
  dsimp only
  repeat' split
  all_goals simp

@[simp] theorem engineRests_pending (x : Seg) : (s.engineRests x).pending = s.pending := by
  unfold engineRests
  dsimp only
  repeat' split
  all_goals simp

@[simp] theorem answerDown_pending (q : List Tag) : (answerDown q s).pending = s.pending := by
  induction q generalizing s with
  | nil => rfl
  | cons t q ih => exact (ih _).trans (s.turnAway_pending t _)

@[simp] theorem beginDrain_pending (x : Seg) (t : Tag) (mark : Bool) :
    (s.beginDrain x t mark).pending = s.pending := by
  simp [beginDrain]

/-! ## The forward path and the local answers (R40 to R45, R61 to R69) -/

@[simp] theorem forward_pending (q : Request) (e : Option EntryNo) : (s.forward q e).pending = s.pending := by
  unfold forward
  repeat' split
  all_goals simp [refuseForward, enqueue]

@[simp] theorem fixedAnswer_pending (q : Request) (r : RecordNo) : (s.fixedAnswer q r).pending = s.pending := by
  unfold fixedAnswer
  split <;> simp

@[simp] theorem streamAnswer_pending (q : Request) (r : RecordNo) : (s.streamAnswer q r).pending = s.pending := by
  unfold streamAnswer chunkAnswer
  dsimp only
  repeat' split
  all_goals simp

@[simp] theorem mirrorAnswer_pending (q : Request) (e : EntryNo) (r : RecordNo) :
    (s.mirrorAnswer q e r).pending = s.pending := by
  unfold mirrorAnswer
  dsimp only
  repeat' split
  all_goals simp [occupyLocal]

/-! ## Admission (R33 to R39) -/

@[simp] theorem act_pending (q : Request) (e : EntryNo) : (s.act q e).pending = s.pending := by
  unfold act
  repeat' split
  all_goals simp

@[simp] theorem hit_pending (q : Request) (e : EntryNo) : (s.hit q e).pending = s.pending := by
  unfold hit
  split <;> simp

@[simp] theorem miss_pending (q : Request) : (s.miss q).pending = s.pending := by
  unfold miss
  dsimp only
  split <;> simp

@[simp] theorem clash_pending (q : Request) : (s.clash q).pending = s.pending := by
  unfold clash
  dsimp only
  split <;> simp

@[simp] theorem toStation_pending (q : Request) : (s.toStation q).pending = s.pending := by
  unfold toStation
  repeat' split
  all_goals simp

end State

/-! ## The agent's verdicts (R147 to R158) -/

/-- Whatever state a verdict gives, its waiting commands are those before. -/
def Verdict.LeavesPending (s : State) : Verdict → Prop
  | .done t => t.pending = s.pending
  | .waits t => t.pending = s.pending
  | .refused _ _ => True

section Verdicts

variable (s : State)

@[simp] theorem leavesPending_done (t : State) : (Verdict.done t).LeavesPending s ↔ t.pending = s.pending := .rfl

@[simp] theorem leavesPending_waits (t : State) : (Verdict.waits t).LeavesPending s ↔ t.pending = s.pending := .rfl

@[simp] theorem leavesPending_refused (st : Status) (rs : Reason) : (Verdict.refused st rs).LeavesPending s :=
  trivial

@[simp] theorem leavesPending_badValue : Verdict.badValue.LeavesPending s := trivial

theorem cmdEntryHold_leavesPending (t : Tag) (arg : Byte) : (cmdEntryHold s t arg).LeavesPending s := by
  unfold cmdEntryHold
  repeat' split
  all_goals simp

theorem cmdEntryRelease_leavesPending (arg : Byte) : (cmdEntryRelease s arg).LeavesPending s := by
  unfold cmdEntryRelease
  dsimp only
  repeat' split
  all_goals simp

theorem cmdSegmentEnable_leavesPending (arg : Byte) : (cmdSegmentEnable s arg).LeavesPending s := by
  unfold cmdSegmentEnable
  dsimp only
  repeat' split
  all_goals simp

theorem cmdSegmentDisable_leavesPending (t : Tag) (arg : Byte) : (cmdSegmentDisable s t arg).LeavesPending s := by
  unfold cmdSegmentDisable
  dsimp only
  repeat' split
  all_goals simp

theorem cmdStreamRewind_leavesPending (arg : Byte) : (cmdStreamRewind s arg).LeavesPending s := by
  unfold cmdStreamRewind
  repeat' split
  all_goals simp

theorem cmdMirrorInvalidate_leavesPending (arg : Byte) : (cmdMirrorInvalidate s arg).LeavesPending s := by
  unfold cmdMirrorInvalidate
  repeat' split
  all_goals simp

theorem cmdNoticeAck_leavesPending (arg : Byte) : (cmdNoticeAck s arg).LeavesPending s := by
  unfold cmdNoticeAck
  repeat' split
  all_goals simp

theorem cmdNoticeForce_leavesPending (arg flags : Byte) : (cmdNoticeForce s arg flags).LeavesPending s := by
  unfold cmdNoticeForce
  repeat' split
  all_goals simp

theorem runCommand_leavesPending (t : Tag) (p : List Byte) (c : CommandObject) :
    (runCommand s t p c).LeavesPending s := by
  cases c
  case entryHold => exact cmdEntryHold_leavesPending s t _
  case entryRelease => exact cmdEntryRelease_leavesPending s _
  case segmentEnable => exact cmdSegmentEnable_leavesPending s _
  case segmentDisable => exact cmdSegmentDisable_leavesPending s t _
  case streamRewind => exact cmdStreamRewind_leavesPending s _
  case mirrorInvalidate => exact cmdMirrorInvalidate_leavesPending s _
  case noticeAck => exact cmdNoticeAck_leavesPending s _
  case noticeForce => exact cmdNoticeForce_leavesPending s _ _
  case entryBar => simp only [runCommand, cmdEntryBar]; split <;> simp
  case entryUnbar => simp only [runCommand, cmdEntryUnbar]; split <;> simp
  case stationForget => simp only [runCommand, cmdStationForget]; split <;> simp
  case noticeDone => simp only [runCommand, cmdNoticeDone]; split <;> simp
  case countersClear => exact s.clearCounters_pending
  case restart => simp only [runCommand, cmdRestart]; split <;> simp

theorem writeEntry_leavesPending (e : EntryNo) (p : List Byte) : (writeEntry s e p).LeavesPending s := by
  unfold writeEntry
  repeat' split
  all_goals simp [State.replaceEntry]

theorem writeDescriptor_leavesPending (n : RecordNo) (p : List Byte) : (writeDescriptor s n p).LeavesPending s := by
  unfold writeDescriptor
  repeat' split
  all_goals simp

theorem writeRecordData_leavesPending (n : RecordNo) (position : Nat) (p : List Byte) :
    (writeRecordData s n position p).LeavesPending s := by
  unfold writeRecordData State.dataWritten
  repeat' split
  all_goals simp

theorem writeSegmentConfig_leavesPending (x : Seg) (p : List Byte) : (writeSegmentConfig s x p).LeavesPending s := by
  unfold writeSegmentConfig
  dsimp only
  repeat' split
  all_goals simp

theorem writeGeneral_leavesPending (p : List Byte) : (writeGeneral s p).LeavesPending s := by
  unfold writeGeneral
  repeat' split
  all_goals simp

theorem ownerWrite_leavesPending (q : Request) (o : MgmtObject) : (ownerWrite s q o).LeavesPending s := by
  cases o
  case general => exact writeGeneral_leavesPending s _
  case segment x => exact writeSegmentConfig_leavesPending s x _
  case command c => exact runCommand_leavesPending s _ _ c
  case entry n => exact writeEntry_leavesPending s n _
  case descriptor n => exact writeDescriptor_leavesPending s n _
  case recordData n => exact writeRecordData_leavesPending s n _ _
  case notice => simp only [ownerWrite, writeNoticeConfig]; split <;> simp
  case station i => simp only [ownerWrite, writeStation]; split <;> simp
  case node k => simp only [ownerWrite, writeNode]; split <;> simp
  case identity => trivial
  case counters => trivial
  case unknown => trivial

theorem mgmtWrite_leavesPending (q : Request) (o : MgmtObject) : (mgmtWrite s q o).LeavesPending s := by
  unfold mgmtWrite
  repeat' split
  · trivial
  · trivial
  · trivial
  · exact ownerWrite_leavesPending s q o

end Verdicts

namespace State

variable (s : State)

theorem conclude_pending (q : Request) (o : MgmtObject) {v : Verdict} (h : v.LeavesPending s) :
    (s.conclude q o v).pending = s.pending := by
  cases v with
  | done t => exact (congrArg State.pending s.conclude_done).trans ((t.capture_pending q _).trans h)
  | waits t => exact h
  | refused st rs => exact s.refuse_pending q st rs

@[simp] theorem manage_pending (q : Request) : (s.manage q).pending = s.pending := by
  have hwrite := s.conclude_pending q (objectOf q.object) (mgmtWrite_leavesPending s q (objectOf q.object))
  unfold manage mgmtRead
  repeat' split
  all_goals simp [hwrite]

/-! ## The acceptance decision (R33 to R38) and the upstream receiver (R167, R172) -/

@[simp] theorem accept_pending (q : Request) : (s.accept q).pending = s.pending := by
  unfold accept toAgent
  repeat' split
  all_goals simp

@[simp] theorem judgeUpstream_pending (r : Except Half Request) : (s.judgeUpstream r).pending = s.pending := by
  cases r with
  | error d => simp [judgeUpstream, linkError]
  | ok q => simp [judgeUpstream, handOver]

@[simp] theorem upstreamFrameEnd_pending : s.upstreamFrameEnd.pending = s.pending := by
  unfold upstreamFrameEnd
  split <;> simp

@[simp] theorem receiveRequest_pending (q : Request) : (s.receiveRequest q).pending = s.pending := by
  unfold receiveRequest
  split <;> simp

/-! ## The segments' events (R81 to R93) -/

@[simp] theorem acceptResponse_pending (x : Seg) (r : Response) : (s.acceptResponse x r).pending = s.pending := by
  unfold acceptResponse
  split <;> simp

@[simp] theorem judgeSegmentFrame_pending (x : Seg) (f : Option Response) :
    (s.judgeSegmentFrame x f).pending = s.pending := by
  unfold judgeSegmentFrame
  repeat' split
  all_goals simp

@[simp] theorem segmentFrameRxEnd_pending (x : Seg) : (s.segmentFrameRxEnd x).pending = s.pending := by
  unfold segmentFrameRxEnd
  dsimp only
  repeat' split
  all_goals simp

@[simp] theorem segmentFrameTxEnd_pending (x : Seg) : (s.segmentFrameTxEnd x).pending = s.pending := by
  unfold segmentFrameTxEnd
  dsimp only
  repeat' split
  all_goals simp

@[simp] theorem responseTimerExpiry_pending (x : Seg) : (s.responseTimerExpiry x).pending = s.pending := by
  unfold responseTimerExpiry
  split <;> simp

@[simp] theorem gapEnd_pending (x : Seg) : (s.gapEnd x).pending = s.pending := by
  unfold gapEnd retry failOutcome
  repeat' split
  all_goals simp

@[simp] theorem probeTimerExpiry_pending (x : Seg) : (s.probeTimerExpiry x).pending = s.pending := by
  unfold probeTimerExpiry
  split <;> simp

/-! ## The restarts and the upstream transmitter (R114 to R122, R135, R163, R164) -/

@[simp] theorem performRestart_pending (t : Tag) : (s.performRestart t).pending = s.pending := by
  unfold performRestart
  repeat' split
  all_goals rfl

@[simp] theorem responseFrameEnd_pending : s.responseFrameEnd.pending = s.pending := by
  unfold responseFrameEnd
  split <;> simp

@[simp] theorem clashFrameEnd_pending : s.clashFrameEnd.pending = s.pending := by
  unfold clashFrameEnd
  split <;> simp

@[simp] theorem noticeFrameEnd_pending : s.noticeFrameEnd.pending = s.pending := by
  unfold noticeFrameEnd
  split <;> simp

@[simp] theorem spacingEnd_pending : s.spacingEnd.pending = s.pending := by
  unfold spacingEnd
  split <;> simp

@[simp] theorem repeatTimerExpiry_pending : s.repeatTimerExpiry.pending = s.pending := by
  unfold repeatTimerExpiry
  split <;> simp

/-! ## The receivers (R167) -/

@[simp] theorem byteArrival_pending (b : Byte) (l : Line) : (s.byteArrival b l).pending = s.pending := by
  cases l with
  | upstream => rfl
  | segment x => exact s.updSeg_pending x _

@[simp] theorem receiverIdleGap_pending (l : Line) : (s.receiverIdleGap l).pending = s.pending := by
  cases l with
  | upstream => exact s.upstreamFrameEnd_pending
  | segment x => exact s.segmentFrameRxEnd_pending x

end State

/-! ## Every command completes -/

/-- The result is a next state in which the same commands wait. -/
def State.Completes (s : State) (r : Result) : Prop := ∃ t, r = .next t ∧ t.pending = s.pending

open State

theorem quietEvent_completes {f : State → State} {s : State} (hf : (f s).pending = s.pending) :
    s.Completes (quietEvent f s) := by
  refine ⟨_, rfl, ?_⟩
  split
  · rfl
  · exact hf

theorem event_completes {f : State → State} {s : State} (hf : (f s).pending = s.pending) :
    s.Completes (event f s) :=
  quietEvent_completes ((f s).start_pending.trans hf)

/-- The power-on values leave the queue, whether a short pulse is taken or not (R165, R179). -/
theorem execResetAssert_completes (w : PulseWidth) (s : State) : s.Completes (execResetAssert w s) := by
  cases w with
  | full => exact ⟨_, rfl, rfl⟩
  | short =>
    refine ⟨_, rfl, ?_⟩
    split <;> rfl

theorem execResetRelease_completes (s : State) : s.Completes (execResetRelease s) := by
  refine ⟨_, rfl, ?_⟩
  split <;> rfl

theorem exec_completes (i : Instr) (s : State) : s.Completes (exec i s) := by
  cases hq : requestOfRow i with
  | some q =>
    rw [exec_of_requestOfRow hq]
    exact event_completes (s.receiveRequest_pending q)
  | none =>
    cases i
    case upstreamFrameEnd => exact event_completes s.upstreamFrameEnd_pending
    case dispatch x => exact event_completes (s.dispatch_pending x)
    case segmentFrameTxEnd x => exact event_completes (f := (·.segmentFrameTxEnd x)) (s.segmentFrameTxEnd_pending x)
    case segmentFrameRxEnd x => exact event_completes (f := (·.segmentFrameRxEnd x)) (s.segmentFrameRxEnd_pending x)
    case responseTimerExpiry x => exact quietEvent_completes (s.responseTimerExpiry_pending x)
    case gapEnd x => exact event_completes (f := (·.gapEnd x)) (s.gapEnd_pending x)
    case probeTimerExpiry x => exact event_completes (s.probeTimerExpiry_pending x)
    case mirrorAgeTick => exact quietEvent_completes s.mirrorAgeTick_pending
    case startOfTransmission => exact quietEvent_completes s.start_pending
    case responseFrameEnd => exact quietEvent_completes s.responseFrameEnd_pending
    case clashFrameEnd => exact quietEvent_completes s.clashFrameEnd_pending
    case noticeFrameEnd => exact quietEvent_completes s.noticeFrameEnd_pending
    case spacingEnd => exact quietEvent_completes s.spacingEnd_pending
    case repeatTimerExpiry => exact quietEvent_completes s.repeatTimerExpiry_pending
    case resetAssert w => exact execResetAssert_completes w s
    case resetRelease => exact execResetRelease_completes s
    case powerUp => exact ⟨_, rfl, rfl⟩
    case receiverIdleGap l => exact event_completes (f := (·.receiverIdleGap l)) (s.receiverIdleGap_pending l)
    case byteArrival l b => exact quietEvent_completes (f := (·.byteArrival b l)) (s.byteArrival_pending b l)
    all_goals cases hq

/-- Settles O51: a command is an event, a request's arrival among them, or acts on RESET# or the supply, and none
of these touches the queue. -/
theorem everyCommandCompletes : Obligations.EveryCommandCompletes := by
  unfold Obligations.EveryCommandCompletes
  exact ⟨exec_completes, fun s => step_of_empty⟩

end Sys2Proof.Machine
